-- ==== Sys2Proof/Word.lean ====
section
/-! DEFINITION. The words and small types of the block (00_scope.md R5, R7; 10_state.md R28, R36; 20_memory.md R51-R53). -/

namespace Sys2Proof

/-- A byte: a fetch latch, an attribute register, a colour channel, one memory byte. -/
abbrev Byte := BitVec 8

/-- A 14-bit memory address; arithmetic on it is modulo 0x4000 (20_memory.md R50). -/
abbrev Addr := BitVec 14

/-- The 15-bit live register `v` and temporary register `t` (30_encoding.md R70, R71). -/
abbrev VReg := BitVec 15

/-- A 16-bit pattern shift register (10_state.md R24). -/
abbrev Pattern := BitVec 16

/-- The three bytes of one RGB table entry or frame-buffer cell: channels 0, 1, 2 in entry order
(30_encoding.md R76). -/
structure RGB where
  r : Byte
  g : Byte
  b : Byte
  deriving DecidableEq, Repr, Inhabited

/-- The next stage of the four-state fetch cycle (10_state.md R28). -/
inductive Stage where
  | NT
  | AT
  | PTLO
  | PTHI
  deriving DecidableEq, Repr, Inhabited

/-- The two read ports of the memory subsystem (20_memory.md R51, R52). -/
inductive Port where
  | generic
  | raw
  deriving DecidableEq, Repr, Inhabited

/-- RAW_FETCH_STAGES: a set of exactly two of NT, AT, PTLO, PTHI (00_scope.md R6), one constructor
for each of the six. -/
inductive RawStages where
  | ntAt
  | ntPtlo
  | ntPthi
  | atPtlo
  | atPthi
  | ptloPthi
  deriving DecidableEq, Repr, Inhabited

/-- The caller identity token carried by the status write (20_memory.md R53). -/
structure CallerToken where
  id : Nat
  deriving DecidableEq, Repr, Inhabited

/-- The external snapshot `E` (10_state.md R36): the four control fields, the temporary register
and fine X. The four control fields are named Booleans (D38). -/
structure Snapshot where
  showBg : Bool
  showSpr : Bool
  bgPatternSelect : Bool
  irqEnable : Bool
  t : VReg
  fineX : BitVec 3
  deriving DecidableEq, Repr, Inhabited

end Sys2Proof
end

