-- ==== Sys2Proof/Config.lean ====
section
/-! DEFINITION. What the source leaves open: the parameters of 00_scope.md R6 and the value a host draws from an unwritten
frame-buffer cell (93_implementation_defined.md U12). An opaque constant has no body: nothing can evaluate it. -/

namespace Sys2Proof

/-- RGB_TABLE: "a fixed 64-entry RGB table" whose entries the source does not give (R6, D40). -/
opaque Config.rgbTable : Vector RGB 64

/-- RAW_FETCH_STAGES: which two fetch stages read the raw array is OPEN (R6, D12). -/
opaque Config.rawFetchStages : RawStages

/-- STATUS_ADDR: the address of "the external status location" is OPEN (R6, D18). -/
opaque Config.statusAddr : Addr

/-- PPU_TOKEN: "a caller identity token", an opaque constant (R6, D18). -/
opaque Config.ppuToken : CallerToken

/-- LIVE_MASK_AT_TICK_START: the spec's default is false (R6, D1; 90_conflicts.md C1). -/
def Config.liveMaskAtTickStart : Bool := false

/-- What a host reads from a frame-buffer cell that holds no value: any value, one for each draw
(D41, U12). -/
opaque Config.unwrittenCell : Nat → RGB

/-- The parameters "a model takes as arguments" (R6), as one record that no step changes. -/
structure Params where
  rgb : Vector RGB 64
  rawStages : RawStages
  statusAddr : Addr
  token : CallerToken
  liveMask : Bool
  deriving DecidableEq, Repr

/-- The parameters the machine has at reset: the OPEN ones are opaque, the mask is the spec's default. -/
def Config.params : Params where
  rgb := Config.rgbTable
  rawStages := Config.rawFetchStages
  statusAddr := Config.statusAddr
  token := Config.ppuToken
  liveMask := Config.liveMaskAtTickStart

end Sys2Proof
end

