-- ==== Sys2Proof/Syntax.lean ====
section
/-! DEFINITION. The instructions: one constructor for each row of spec/opcode_table.json, 29 micro-operations of a tick
(30_encoding.md R88) and 11 host actions (60_exceptions.md R240-R248, 70_reset_and_hazards.md R260, 40_scheduler.md R100). -/

namespace Sys2Proof

/-- One frame-buffer cell of an initial state, as the host hands it over: nothing is checked yet. -/
structure RawCell where
  row : Nat
  col : Nat
  r : Nat
  g : Nat
  b : Nat
  deriving DecidableEq, Repr

/-- The state `S0` a reinitialisation supplies (70_reset_and_hazards.md R260), every number as the
host wrote it; R261 says which ones are admitted. A cell not listed in `fb` holds no value. -/
structure InitImage where
  dot : Nat
  scanline : Nat
  v : Nat
  slo : Nat
  shi : Nat
  alo : Nat
  ahi : Nat
  ntLatch : Nat
  atLatch : Nat
  ptLoLatch : Nat
  ptHiLatch : Nat
  ptBase : Nat
  stage : Stage
  idle : Nat
  cpVis : Nat
  cpPre : Nat
  vblank : Bool
  irq : Bool
  spriteZeroHit : Bool
  spriteOverflow : Bool
  frameParity : Nat
  fb : List RawCell
  deriving DecidableEq, Repr

/-- The reference initial state REF_INIT (10_state.md R41). -/
def InitImage.refInit : InitImage where
  dot := 0
  scanline := 0
  v := 0
  slo := 0
  shi := 0
  alo := 0
  ahi := 0
  ntLatch := 0
  atLatch := 0
  ptLoLatch := 0
  ptHiLatch := 0
  ptBase := 0
  stage := .NT
  idle := 0
  cpVis := 8
  cpPre := 328
  vblank := false
  irq := false
  spriteZeroHit := false
  spriteOverflow := false
  frameParity := 0
  fb := []

/-- The micro-operations and host actions. The operand of a HOST_SET_CTRL or HOST_SET_MASK field is
`none` where the script line does not name that field (30_encoding.md R91, log 16). -/
inductive Instr where
  | tickMask
  | snapshot
  | vblSet
  | irqRaise
  | vblClear
  | statusWrite
  | srReload
  | atRecompute
  | fetchStall257
  | fetchIdle
  | fetchNtDummy
  | fetchNt
  | fetchAt
  | fetchPtlo
  | fetchPthiVis
  | fetchPthiPre
  | incFineY
  | copyH
  | cpReset
  | copyV
  | incCoarseXVis
  | incCoarseXPre
  | srShift
  | pixelBg
  | pixelForcedV
  | pixelForcedDefault
  | pixelEmit
  | counterAdvance
  | parityToggle
  | advance
  | hostSetCtrl (bgPatternSelect irqEnable : Option Bool)
  | hostSetMask (showBg showSpr : Option Bool)
  | hostSetT (x : Nat)
  | hostSetFinex (x : Nat)
  | hostSetIdle (n : Nat)
  | hostClrIrq
  | hostSetSprflags (z o : Bool)
  | hostPoke (view : Port) (a : Addr) (b : Byte)
  | hostObserve
  | hostReinit (S0 : InitImage)
  deriving DecidableEq, Repr

end Sys2Proof
end

