-- ==== Sys2Proof/WellFormed.lean ====
section
/-! DEFINITION. Which instructions are well formed: what a host move must name, and when a script line can spell it
(30_encoding.md R91). Ranges of a reinitialisation are no matter of form: R261 refuses them when the move runs. -/

namespace Sys2Proof

/-- A SET line names at least one of the two fields of its row (R91). -/
def namesAField (a b : Option Bool) : Bool := a.isSome || b.isSome

/-- The positions of the listed cells rise strictly, row by row and column by column, so that no cell
has two values. -/
def cellsRise : List RawCell → Bool
  | [] => true
  | [_] => true
  | c :: d :: rest => (c.row < d.row || (c.row == d.row && c.col < d.col)) && cellsRise (d :: rest)

/-- The form checks of each instruction. -/
def Instr.wellFormed : Instr → Bool
  | .hostSetCtrl a b => namesAField a b
  | .hostSetMask a b => namesAField a b
  | .hostReinit S0 => cellsRise S0.fb
  | .tickMask | .snapshot | .vblSet | .irqRaise | .vblClear | .statusWrite => true
  | .srReload | .atRecompute | .fetchStall257 | .fetchIdle | .fetchNtDummy | .fetchNt | .fetchAt => true
  | .fetchPtlo | .fetchPthiVis | .fetchPthiPre | .incFineY | .copyH | .cpReset | .copyV => true
  | .incCoarseXVis | .incCoarseXPre | .srShift | .pixelBg | .pixelForcedV | .pixelForcedDefault => true
  | .pixelEmit | .counterAdvance | .parityToggle | .advance => true
  | .hostSetT _ | .hostSetFinex _ | .hostSetIdle _ | .hostClrIrq | .hostSetSprflags _ _ => true
  | .hostPoke _ _ _ | .hostObserve => true

/-- The instruction has a line in the script notation: it is well formed, and a reinitialisation lists
no frame-buffer cell, for which R91 has no `k=v` form (log 14). -/
def Instr.scriptable : Instr → Bool
  | .hostReinit S0 => S0.fb.isEmpty
  | i => i.wellFormed

end Sys2Proof
end

