-- ==== Sys2Proof/Decode.lean ====
section
/-! DEFINITION. Reading instructions (30_encoding.md). Three parts: the selector word and the match/mask pair of each row
(R72); the micro-operation map, which micro-operations a tick issues (R88); and the written form of host moves, the script
notation (R91), with its encoder. The block has no instruction words: a selector word says where a tick stands, and the map
says what it issues there. -/

namespace Sys2Proof

/-! ## The selector word (R72) -/

/-- The 18-bit selector `scanline[8:0] ‖ dot[8:0]`. -/
abbrev Sel := BitVec 18

/-- The selector word of the tick `(s, d)`. -/
def Sel.pack (s d : Nat) : Sel := BitVec.ofNat 9 s ++ BitVec.ofNat 9 d

/-- `sel[17:9]`. -/
def Sel.scanlineOf (sel : Sel) : Nat := (sel.extractLsb' 9 9).toNat

/-- `sel[8:0]`. -/
def Sel.dotOf (sel : Sel) : Nat := (sel.extractLsb' 0 9).toNat

/-- The `(match, mask)` pair of each row of the opcode table; a host action's pattern
`sssssssssddddddddd` fixes no bit. -/
def Instr.pair : Instr → Sel × Sel
  | .vblSet => (0x1e201#18, 0x3ffff#18)
  | .irqRaise => (0x1e201#18, 0x3ffff#18)
  | .vblClear => (0x20a01#18, 0x3ffff#18)
  | .statusWrite => (0x20a01#18, 0x3ffff#18)
  | .fetchStall257 => (0x101#18, 0x1ff#18)
  | .fetchPthiPre => (0x20a00#18, 0x3fe00#18)
  | .incFineY => (0x100#18, 0x1ff#18)
  | .copyH => (0x101#18, 0x1ff#18)
  | .cpReset => (0x101#18, 0x1ff#18)
  | .copyV => (0x20a00#18, 0x3fe00#18)
  | .parityToggle => (0x20b54#18, 0x3ffff#18)
  | .tickMask | .snapshot | .srReload | .atRecompute | .fetchIdle | .fetchNtDummy => (0#18, 0#18)
  | .fetchNt | .fetchAt | .fetchPtlo | .fetchPthiVis | .incCoarseXVis | .incCoarseXPre => (0#18, 0#18)
  | .srShift | .pixelBg | .pixelForcedV | .pixelForcedDefault | .pixelEmit => (0#18, 0#18)
  | .counterAdvance => (0#18, 0#18)
  | .advance | .hostSetCtrl _ _ | .hostSetMask _ _ | .hostSetT _ | .hostSetFinex _ => (0#18, 0#18)
  | .hostSetIdle _ | .hostClrIrq | .hostSetSprflags _ _ | .hostPoke _ _ _ => (0#18, 0#18)
  | .hostObserve | .hostReinit _ => (0#18, 0#18)

/-- "A row's `match`/`mask` pair holds exactly when `sel & mask = match`" (R72). -/
def Instr.pairHolds (i : Instr) (sel : Sel) : Bool := sel &&& i.pair.2 == i.pair.1

/-- The row is a host action, "moves between ticks, not parts of a tick" (R72). -/
def Instr.isHostMove : Instr → Bool
  | .advance | .hostSetCtrl _ _ | .hostSetMask _ _ | .hostSetT _ | .hostSetFinex _ => true
  | .hostSetIdle _ | .hostClrIrq | .hostSetSprflags _ _ | .hostPoke _ _ _ => true
  | .hostObserve | .hostReinit _ => true
  | .tickMask | .snapshot | .vblSet | .irqRaise | .vblClear | .statusWrite => false
  | .srReload | .atRecompute | .fetchStall257 | .fetchIdle | .fetchNtDummy | .fetchNt | .fetchAt => false
  | .fetchPtlo | .fetchPthiVis | .fetchPthiPre | .incFineY | .copyH | .cpReset | .copyV => false
  | .incCoarseXVis | .incCoarseXPre | .srShift | .pixelBg | .pixelForcedV | .pixelForcedDefault => false
  | .pixelEmit | .counterAdvance | .parityToggle => false

/-! ## The sets of dots and lines (00_scope.md R5) -/

/-- RENDER_LINES = {0..239} ∪ {261} (R5, 40_scheduler.md R104). -/
def renderLine (s : Nat) : Bool := s ≤ 239 || s == 261

/-- FETCH_WINDOWS = [1,256] ∪ [321,336] (R5, 42_fetch_pipeline.md R142). -/
def fetchWindow (d : Nat) : Bool := (1 ≤ d && d ≤ 256) || (321 ≤ d && d ≤ 336)

/-- SHIFT_WINDOWS = [2,257] ∪ [322,337] (R5, 43_shift_mux.md R170). -/
def shiftWindow (d : Nat) : Bool := (2 ≤ d && d ≤ 257) || (322 ≤ d && d ≤ 337)

/-- RELOAD_DOTS: `8k + 1` for k = 1..32, and 329, 337 (43_shift_mux.md R171). -/
def reloadDot (d : Nat) : Bool := (9 ≤ d && d ≤ 257 && d % 8 == 1) || d == 329 || d == 337

/-- VERTICAL_COPY_DOTS on the pre-render line: 280..304 inclusive (R5, 41_address_pathway.md R122). -/
def verticalCopy (s d : Nat) : Bool := s == 261 && 280 ≤ d && d ≤ 304

/-- VISIBLE_WRITE_LINES and VISIBLE_WRITE_DOTS: scanlines 8..231, dots 1..256 (R5,
40_scheduler.md R106). -/
def writeWindow (s d : Nat) : Bool := 8 ≤ s && s ≤ 231 && 1 ≤ d && d ≤ 256

/-! ## The micro-operation map (R88) -/

/-- `R = E.showBg ∨ E.showSpr` (10_state.md R37). -/
def Snapshot.renderingEnabled (e : Snapshot) : Bool := e.showBg || e.showSpr

/-- `BG = E.showBg` (10_state.md R37). -/
def Snapshot.backgroundEnabled (e : Snapshot) : Bool := e.showBg

/-- Everything the `select` conditions read: the tick's start coordinates, the snapshot, the mask
parameter, and the state as the lines before left it. -/
structure TickCtx where
  scanline : Nat
  dot : Nat
  liveMask : Bool
  e : Snapshot
  vblank : Bool
  stage : Stage
  idle : Nat
  cpVis : Nat
  cpPre : Nat
  v : VReg
  deriving DecidableEq, Repr

/-- The rendering gate `G = ¬vblank' ∧ R ∧ s ∈ RENDER_LINES` (40_scheduler.md R103). -/
def TickCtx.gate (c : TickCtx) : Bool := !c.vblank && c.e.renderingEnabled && renderLine c.scanline

/-- The pixel gate (40_scheduler.md R106): it does not ask for `R`. -/
def TickCtx.pixelGate (c : TickCtx) : Bool := !c.vblank && writeWindow c.scanline c.dot

/-- `(v & 0x3FFF) ≥ 0x3F00` (44_pixel_renderer.md R192). -/
def palettePointed (v : VReg) : Bool := 0x3F00 ≤ (v &&& 0x3FFF#15).toNat

/-- The shared part of the in-window fetch conditions: `G ∧ idle = 0 ∧ d ∈ FETCH_WINDOWS ∧ stage = st`. -/
def TickCtx.inWindowFetch (c : TickCtx) (st : Stage) : Bool :=
  c.gate && c.idle == 0 && fetchWindow c.dot && c.stage == st

/-- The condition column of R88, line by line; a host action is no part of a tick. -/
def Instr.selected (i : Instr) (c : TickCtx) : Bool :=
  match i with
  | .tickMask => c.liveMask
  | .snapshot => true
  | .vblSet => c.scanline == 241 && c.dot == 1
  | .irqRaise => c.scanline == 241 && c.dot == 1 && c.e.irqEnable
  | .vblClear => c.scanline == 261 && c.dot == 1
  | .statusWrite => c.scanline == 261 && c.dot == 1
  | .srReload => c.gate && reloadDot c.dot
  | .atRecompute => c.gate && reloadDot c.dot
  | .fetchStall257 => c.gate && c.dot == 257
  | .fetchIdle => c.gate && c.dot != 257 && decide (0 < c.idle)
  | .fetchNtDummy => c.gate && c.dot != 257 && c.idle == 0 && !fetchWindow c.dot
  | .fetchNt => c.inWindowFetch .NT
  | .fetchAt => c.inWindowFetch .AT
  | .fetchPtlo => c.inWindowFetch .PTLO
  | .fetchPthiVis => c.inWindowFetch .PTHI && c.scanline != 261
  | .fetchPthiPre => c.inWindowFetch .PTHI && c.scanline == 261
  | .incFineY => c.gate && c.dot == 256
  | .copyH => c.gate && c.dot == 257
  | .cpReset => c.gate && c.dot == 257
  | .copyV => c.gate && verticalCopy c.scanline c.dot
  | .incCoarseXVis => c.gate && c.dot == c.cpVis
  | .incCoarseXPre => c.gate && c.dot == c.cpPre
  | .srShift => c.gate && shiftWindow c.dot
  | .pixelBg => c.pixelGate && c.e.backgroundEnabled
  | .pixelForcedV => c.pixelGate && !c.e.backgroundEnabled && palettePointed c.v
  | .pixelForcedDefault => c.pixelGate && !c.e.backgroundEnabled && !palettePointed c.v
  | .pixelEmit => c.pixelGate
  | .counterAdvance => true
  | .parityToggle => c.scanline == 261 && c.dot == 340
  | .advance | .hostSetCtrl _ _ | .hostSetMask _ _ | .hostSetT _ | .hostSetFinex _ => false
  | .hostSetIdle _ | .hostClrIrq | .hostSetSprflags _ _ | .hostPoke _ _ _ => false
  | .hostObserve | .hostReinit _ => false

/-- The steps of a tick in the order of R88 and 40_scheduler.md R100; step 4 is the VBlank gate, which
is part of the conditions. -/
inductive TickStep where
  | mask
  | sample
  | vblankCheck
  | reload
  | fetch
  | address
  | shift
  | pixel
  | counter
  deriving DecidableEq, Repr

/-- Steps 1, 2, 3, 5a, 5b, 5c, 5d, 6, 7. -/
def TickStep.order : List TickStep :=
  [.mask, .sample, .vblankCheck, .reload, .fetch, .address, .shift, .pixel, .counter]

/-- The lines of R88 that belong to each step, in order; CP_RESET comes with COPY_H. -/
def TickStep.lines : TickStep → List Instr
  | .mask => [.tickMask]
  | .sample => [.snapshot]
  | .vblankCheck => [.vblSet, .irqRaise, .vblClear, .statusWrite]
  | .reload => [.srReload, .atRecompute]
  | .fetch =>
    [.fetchStall257, .fetchIdle, .fetchNtDummy, .fetchNt, .fetchAt, .fetchPtlo, .fetchPthiVis, .fetchPthiPre]
  | .address => [.incFineY, .copyH, .copyV, .incCoarseXVis, .incCoarseXPre]
  | .shift => [.srShift]
  | .pixel => [.pixelBg, .pixelForcedV, .pixelForcedDefault, .pixelEmit]
  | .counter => [.counterAdvance, .parityToggle]

/-- The first line of a step whose condition holds. -/
def firstSelected (c : TickCtx) (ls : List Instr) : Option Instr := ls.find? fun i => i.selected c

/-- The micro-operations a step issues: "within step 5b and within step 5c at most one is issued (the
first whose condition holds)" (R88, 41_address_pathway.md R127), COPY_H with CP_RESET; in the
other steps every line whose condition holds. -/
def issued (st : TickStep) (c : TickCtx) : List Instr :=
  match st with
  | .fetch => (firstSelected c TickStep.fetch.lines).toList
  | .address =>
    match firstSelected c TickStep.address.lines with
    | none => []
    | some .copyH => [.copyH, .cpReset]
    | some i => [i]
  | .mask | .sample | .vblankCheck | .reload | .shift | .pixel | .counter =>
    st.lines.filter fun i => i.selected c

/-! ## The table word

Several rows share one pair, and 29 rows fix no bit, so a selector word alone does not name one row
(log 15). -/

/-- The rows that fix bits of the selector word, most bits first, and among equals first the row whose
condition rests on the coordinates and `G` alone; ADVANCE, the tick itself, stands at any word. -/
def selectorRows : List Instr :=
  [.vblSet, .irqRaise, .vblClear, .statusWrite, .parityToggle, .fetchStall257, .incFineY, .copyH, .cpReset,
    .copyV, .fetchPthiPre, .advance]

/-- The rows of `selectorRows` whose pair holds at a selector word. -/
def decodeSelector (sel : Sel) : List Instr := selectorRows.filter fun i => i.pairHolds sel

/-- The row a table word names, if it lies at coordinates of a frame. -/
def decodeTableWord (nbits w : Nat) : Option Instr :=
  if w < 2 ^ 18 ∧ w < 2 ^ nbits then
    if Sel.scanlineOf (BitVec.ofNat 18 w) ≤ 261 ∧ Sel.dotOf (BitVec.ofNat 18 w) ≤ 340 then
      (decodeSelector (BitVec.ofNat 18 w)).head?
    else none
  else none

/-! ## The script notation (R91) -/

/-- A line of script text, one ASCII byte for each character. -/
abbrev Text := List Byte

/-- The bytes of an ASCII string. -/
def ascii (s : String) : Text := s.toList.map fun c => BitVec.ofNat 8 c.toNat

/-- Why a line is no script line. -/
inductive DecodeError where
  /-- a byte that no line of R91 holds -/
  | badCharacter (b : Byte)
  /-- a word that starts with a digit and is no decimal, 0x or 0b number -/
  | badNumber
  /-- a word that is no keyword, field, element or mnemonic -/
  | unknownWord
  /-- a line that holds nothing -/
  | emptyLine
  /-- a line that does not start with a word that opens a line -/
  | notALine
  /-- operands that do not have the shape of R91 -/
  | badOperands
  /-- a POKE address of 0x4000 or more, a byte of 0x100 or more, a bit that is neither 0 nor 1 -/
  | operandOutOfRange
  /-- RUNTO coordinates, or the counters RUNTO starts from, that no tick has; an error of the whole script,
  by DESIGN CHOICE (log 14) -/
  | coordinatesOutOfRange
  /-- TICK with a count other than 1, or RUNTO, where one move is wanted -/
  | notOneMove
  deriving DecidableEq, Repr

/-- The snapshot fields of `SET E.f = x`. -/
inductive EField where
  | showBg
  | showSpr
  | bgPatternSelect
  | irqEnable
  | t
  | fineX
  deriving DecidableEq, Repr

/-- The state elements of `INIT k=v` that hold a number, a flag or a stage. -/
inductive Elem where
  | dot
  | scanline
  | v
  | slo
  | shi
  | alo
  | ahi
  | ntLatch
  | atLatch
  | ptLoLatch
  | ptHiLatch
  | ptBase
  | stage
  | idle
  | cpVis
  | cpPre
  | vblank
  | irq
  | spriteZeroHit
  | spriteOverflow
  | frameParity
  deriving DecidableEq, Repr

/-- Every element, in the order of 10_state.md R20. -/
def Elem.all : List Elem :=
  [.dot, .scanline, .v, .slo, .shi, .alo, .ahi, .ntLatch, .atLatch, .ptLoLatch, .ptHiLatch, .ptBase, .stage,
    .idle, .cpVis, .cpPre, .vblank, .irq, .spriteZeroHit, .spriteOverflow, .frameParity]

/-- The words of the notation. -/
inductive Keyword where
  | init
  | set
  | poke
  | idle
  | clrIrq
  | sprFlags
  | tick
  | runTo
  | gen
  | raw
  | yes
  | no
  | field (f : EField)
  | elem (e : Elem)
  | stage (s : Stage)
  | mnemonic (i : Instr)
  deriving DecidableEq, Repr

/-- The words that open a line or name a port or a truth value (R91). -/
def lineWords : List (Text × Keyword) :=
  [(ascii "INIT", .init), (ascii "SET", .set), (ascii "POKE", .poke), (ascii "IDLE", .idle),
    (ascii "CLRIRQ", .clrIrq), (ascii "SPRFLAGS", .sprFlags), (ascii "TICK", .tick), (ascii "RUNTO", .runTo),
    (ascii "gen", .gen), (ascii "raw", .raw), (ascii "true", .yes), (ascii "false", .no)]

/-- The snapshot fields (10_state.md R36). -/
def fieldWords : List (Text × Keyword) :=
  [(ascii "E.showBg", .field .showBg), (ascii "E.showSpr", .field .showSpr),
    (ascii "E.bgPatternSelect", .field .bgPatternSelect), (ascii "E.irqEnable", .field .irqEnable),
    (ascii "E.t", .field .t), (ascii "E.fineX", .field .fineX)]

/-- The state elements and the stages (10_state.md R20, R28). -/
def elemWords : List (Text × Keyword) :=
  [(ascii "dot", .elem .dot), (ascii "scanline", .elem .scanline), (ascii "v", .elem .v),
    (ascii "slo", .elem .slo), (ascii "shi", .elem .shi), (ascii "alo", .elem .alo), (ascii "ahi", .elem .ahi),
    (ascii "ntLatch", .elem .ntLatch), (ascii "atLatch", .elem .atLatch), (ascii "ptLoLatch", .elem .ptLoLatch),
    (ascii "ptHiLatch", .elem .ptHiLatch), (ascii "ptBase", .elem .ptBase), (ascii "stage", .elem .stage),
    (ascii "idle", .elem .idle), (ascii "cpVis", .elem .cpVis), (ascii "cpPre", .elem .cpPre),
    (ascii "vblank", .elem .vblank), (ascii "irq", .elem .irq), (ascii "spriteZeroHit", .elem .spriteZeroHit),
    (ascii "spriteOverflow", .elem .spriteOverflow), (ascii "frameParity", .elem .frameParity),
    (ascii "NT", .stage .NT), (ascii "AT", .stage .AT), (ascii "PTLO", .stage .PTLO), (ascii "PTHI", .stage .PTHI)]

/-- The upper-case mnemonics of R88, and HOST_OBSERVE, which has no script line of its own. -/
def mnemonicWords : List (Text × Keyword) :=
  [(ascii "TICK_MASK", .mnemonic .tickMask), (ascii "SNAPSHOT", .mnemonic .snapshot),
    (ascii "VBL_SET", .mnemonic .vblSet), (ascii "IRQ_RAISE", .mnemonic .irqRaise),
    (ascii "VBL_CLEAR", .mnemonic .vblClear), (ascii "STATUS_WRITE", .mnemonic .statusWrite),
    (ascii "SR_RELOAD", .mnemonic .srReload), (ascii "AT_RECOMPUTE", .mnemonic .atRecompute),
    (ascii "FETCH_STALL_257", .mnemonic .fetchStall257), (ascii "FETCH_IDLE", .mnemonic .fetchIdle),
    (ascii "FETCH_NT_DUMMY", .mnemonic .fetchNtDummy), (ascii "FETCH_NT", .mnemonic .fetchNt),
    (ascii "FETCH_AT", .mnemonic .fetchAt), (ascii "FETCH_PTLO", .mnemonic .fetchPtlo),
    (ascii "FETCH_PTHI_VIS", .mnemonic .fetchPthiVis), (ascii "FETCH_PTHI_PRE", .mnemonic .fetchPthiPre),
    (ascii "INC_FINE_Y", .mnemonic .incFineY), (ascii "COPY_H", .mnemonic .copyH),
    (ascii "CP_RESET", .mnemonic .cpReset), (ascii "COPY_V", .mnemonic .copyV),
    (ascii "INC_COARSE_X_VIS", .mnemonic .incCoarseXVis), (ascii "INC_COARSE_X_PRE", .mnemonic .incCoarseXPre),
    (ascii "SR_SHIFT", .mnemonic .srShift), (ascii "PIXEL_BG", .mnemonic .pixelBg),
    (ascii "PIXEL_FORCED_V", .mnemonic .pixelForcedV),
    (ascii "PIXEL_FORCED_DEFAULT", .mnemonic .pixelForcedDefault), (ascii "PIXEL_EMIT", .mnemonic .pixelEmit),
    (ascii "COUNTER_ADVANCE", .mnemonic .counterAdvance), (ascii "PARITY_TOGGLE", .mnemonic .parityToggle),
    (ascii "HOST_OBSERVE", .mnemonic .hostObserve)]

/-- Every word of the notation with what it means. -/
def keywordTable : List (Text × Keyword) := lineWords ++ fieldWords ++ elemWords ++ mnemonicWords

/-- What a word means. -/
def Keyword.lookup (w : Text) : Option Keyword := (keywordTable.find? fun p => p.1 == w).map Prod.snd

/-- How a keyword is spelled. -/
def Keyword.spell (k : Keyword) : Text := ((keywordTable.find? fun p => p.2 == k).map Prod.fst).getD []

/-- The lexemes of a line. -/
inductive Lexeme where
  | kw (k : Keyword)
  | num (n : Nat)
  | eq
  | comma
  | semi
  deriving DecidableEq, Repr

/-! ### Numbers: decimal, `0x` and hexadecimal digits, `0b` and binary digits (00_scope.md R7) -/

/-- The value of a binary digit. -/
def binDigit (c : Byte) : Option Nat := if c = 0x30#8 then some 0 else if c = 0x31#8 then some 1 else none

/-- The value of a decimal digit. -/
def decDigit (c : Byte) : Option Nat := if 0x30 ≤ c.toNat ∧ c.toNat ≤ 0x39 then some (c.toNat - 0x30) else none

/-- The value of a hexadecimal digit of either case. -/
def hexDigit (c : Byte) : Option Nat :=
  if 0x30 ≤ c.toNat ∧ c.toNat ≤ 0x39 then some (c.toNat - 0x30)
  else if 0x41 ≤ c.toNat ∧ c.toNat ≤ 0x46 then some (c.toNat - 0x37)
  else if 0x61 ≤ c.toNat ∧ c.toNat ≤ 0x66 then some (c.toNat - 0x57)
  else none

/-- The number that digits of a base write, most significant first, after `acc`. -/
def digitsValue (base : Nat) (digit : Byte → Option Nat) : Text → Nat → Option Nat
  | [], acc => some acc
  | c :: cs, acc =>
    match digit c with
    | none => none
    | some x => digitsValue base digit cs (base * acc + x)

/-- The number a word writes, in the literals of 00_scope.md R7 (hex `0x…`, binary `0b…`) or in decimal.
That R91's values take R7's literals, and in which case, is the model's reading (log 14). -/
def numberOf : Text → Option Nat
  | [] => none
  | c :: cs =>
    match cs with
    | [] => decDigit c
    | x :: hs =>
      if c = 0x30#8 ∧ x = 0x78#8 then
        if hs = [] then none else digitsValue 16 hexDigit hs 0
      else if c = 0x30#8 ∧ x = 0x62#8 then
        if hs = [] then none else digitsValue 2 binDigit hs 0
      else digitsValue 10 decDigit (c :: x :: hs) 0

/-- The decimal digits of `n` before `acc`; `fuel` bounds how many. -/
def decText : Nat → Nat → Text → Text
  | 0, _, acc => acc
  | fuel + 1, n, acc =>
    if n < 10 then BitVec.ofNat 8 (0x30 + n) :: acc
    else decText fuel (n / 10) (BitVec.ofNat 8 (0x30 + n % 10) :: acc)

/-- The decimal digits of `n`. -/
def natText (n : Nat) : Text := decText (n + 1) n []

/-! ### From bytes to lexemes -/

/-- Letters, digits, the underscore and the full stop make words. -/
def isWordByte (c : Byte) : Bool :=
  (0x30 ≤ c.toNat && c.toNat ≤ 0x39) || (0x41 ≤ c.toNat && c.toNat ≤ 0x5A) ||
    (0x61 ≤ c.toNat && c.toNat ≤ 0x7A) || c.toNat == 0x5F || c.toNat == 0x2E

/-- The lexeme of a word: a number if it starts with a digit, else a keyword. -/
def wordLexeme (w : Text) : Except DecodeError (List Lexeme) :=
  match w with
  | [] => .ok []
  | c :: cs =>
    if (decDigit c).isSome then
      match numberOf (c :: cs) with
      | some n => .ok [.num n]
      | none => .error .badNumber
    else
      match Keyword.lookup (c :: cs) with
      | some k => .ok [.kw k]
      | none => .error .unknownWord

/-- The lexeme of a byte that is no part of a word; blanks give none. -/
def signLexeme (c : Byte) : Except DecodeError (List Lexeme) :=
  if c.toNat = 0x20 ∨ c.toNat = 0x09 ∨ c.toNat = 0x0D then .ok []
  else if c.toNat = 0x3D then .ok [.eq]
  else if c.toNat = 0x2C then .ok [.comma]
  else if c.toNat = 0x3B then .ok [.semi]
  else .error (.badCharacter c)

/-- The lexemes of a line, `cur` being the word read so far. -/
def lexFrom (cur : Text) : Text → Except DecodeError (List Lexeme)
  | [] => wordLexeme cur
  | c :: cs =>
    if isWordByte c then lexFrom (cur ++ [c]) cs
    else
      match wordLexeme cur, signLexeme c, lexFrom [] cs with
      | .ok a, .ok b, .ok r => .ok (a ++ b ++ r)
      | .error e, _, _ => .error e
      | .ok _, .error e, _ => .error e
      | .ok _, .ok _, .error e => .error e

/-- The lexemes of a line. -/
def lex (line : Text) : Except DecodeError (List Lexeme) := lexFrom [] line

/-! ### From lexemes to moves -/

/-- A line of a script: one move, `TICK n`, or `RUNTO s,d` (R91). -/
inductive ScriptLine where
  | move (i : Instr)
  | tick (n : Nat)
  | runTo (s d : Nat)
  deriving DecidableEq, Repr

/-- A one-bit value; any other number is no line (log 14). -/
def bitOf : Lexeme → Except DecodeError Bool
  | .num n => if n = 0 then .ok false else if n = 1 then .ok true else .error .operandOutOfRange
  | .kw .yes => .ok true
  | .kw .no => .ok false
  | _ => .error .badOperands

/-- A number. -/
def numOf : Lexeme → Except DecodeError Nat
  | .num n => .ok n
  | _ => .error .badOperands

/-- A stage, by its name; anything else is no line (log 14). -/
def stageOf : Lexeme → Except DecodeError Stage
  | .kw (.stage s) => .ok s
  | _ => .error .badOperands

/-- `INIT … k=v …`: the image with element `k` replaced. DESIGN CHOICE (log 14): a stage that is none of the
four or a flag that is no Boolean is a decode error of the script and not an INIT that R261 refuses; R91
is silent on which. A number out of its range, frameParity's too, is kept for R261's check. -/
def Elem.assign (e : Elem) (S0 : InitImage) (x : Lexeme) : Except DecodeError InitImage :=
  match e with
  | .dot => (numOf x).map fun n => { S0 with dot := n }
  | .scanline => (numOf x).map fun n => { S0 with scanline := n }
  | .v => (numOf x).map fun n => { S0 with v := n }
  | .slo => (numOf x).map fun n => { S0 with slo := n }
  | .shi => (numOf x).map fun n => { S0 with shi := n }
  | .alo => (numOf x).map fun n => { S0 with alo := n }
  | .ahi => (numOf x).map fun n => { S0 with ahi := n }
  | .ntLatch => (numOf x).map fun n => { S0 with ntLatch := n }
  | .atLatch => (numOf x).map fun n => { S0 with atLatch := n }
  | .ptLoLatch => (numOf x).map fun n => { S0 with ptLoLatch := n }
  | .ptHiLatch => (numOf x).map fun n => { S0 with ptHiLatch := n }
  | .ptBase => (numOf x).map fun n => { S0 with ptBase := n }
  | .stage => (stageOf x).map fun s => { S0 with stage := s }
  | .idle => (numOf x).map fun n => { S0 with idle := n }
  | .cpVis => (numOf x).map fun n => { S0 with cpVis := n }
  | .cpPre => (numOf x).map fun n => { S0 with cpPre := n }
  | .vblank => (bitOf x).map fun b => { S0 with vblank := b }
  | .irq => (bitOf x).map fun b => { S0 with irq := b }
  | .spriteZeroHit => (bitOf x).map fun b => { S0 with spriteZeroHit := b }
  | .spriteOverflow => (bitOf x).map fun b => { S0 with spriteOverflow := b }
  | .frameParity => (numOf x).map fun n => { S0 with frameParity := n }

/-- The list after INIT: `k = v`, with commas between. DESIGN CHOICE (log 14): an element listed twice
takes its last value, and the list may end in a comma; R91 is silent on both. -/
def parseInit (S0 : InitImage) : List Lexeme → Except DecodeError InitImage
  | [] => .ok S0
  | .kw (.elem e) :: .eq :: x :: [] => e.assign S0 x
  | .kw (.elem e) :: .eq :: x :: .comma :: rest =>
    match e.assign S0 x with
    | .ok S1 => parseInit S1 rest
    | .error r => .error r
  | _ => .error .badOperands

/-- `SET E.f = x`: the move that sets one field. -/
def setOne (f : EField) (x : Lexeme) : Except DecodeError Instr :=
  match f with
  | .showBg => (bitOf x).map fun b => .hostSetMask (some b) none
  | .showSpr => (bitOf x).map fun b => .hostSetMask none (some b)
  | .bgPatternSelect => (bitOf x).map fun b => .hostSetCtrl (some b) none
  | .irqEnable => (bitOf x).map fun b => .hostSetCtrl none (some b)
  | .t => (numOf x).map fun n => .hostSetT n
  | .fineX => (numOf x).map fun n => .hostSetFinex n

/-- `SET E.f = x; SET E.g = y` on one line, where the table's row holds both fields, in the row's order.
DESIGN CHOICE (log 14): R91 gives a line of one SET. -/
def setTwo (f g : EField) (x y : Lexeme) : Except DecodeError Instr :=
  match f, g with
  | .bgPatternSelect, .irqEnable =>
    match bitOf x, bitOf y with
    | .ok a, .ok b => .ok (.hostSetCtrl (some a) (some b))
    | .error e, _ => .error e
    | .ok _, .error e => .error e
  | .showBg, .showSpr =>
    match bitOf x, bitOf y with
    | .ok a, .ok b => .ok (.hostSetMask (some a) (some b))
    | .error e, _ => .error e
    | .ok _, .error e => .error e
  | _, _ => .error .badOperands

/-- `POKE p a, b` (60_exceptions.md R247). -/
def pokeMove (view : Port) (a b : Nat) : Except DecodeError Instr :=
  if a < 2 ^ 14 ∧ b < 2 ^ 8 then .ok (.hostPoke view (BitVec.ofNat 14 a) (BitVec.ofNat 8 b))
  else .error .operandOutOfRange

/-- The line that a first word and its operands make. DESIGN CHOICE (log 14): RUNTO to coordinates that no
tick has is no line; R91 is silent on it. -/
def parseArgs (k : Keyword) (args : List Lexeme) : Except DecodeError ScriptLine :=
  match k with
  | .init => (parseInit InitImage.refInit args).map fun S0 => .move (.hostReinit S0)
  | .set =>
    match args with
    | [.kw (.field f), .eq, x] => (setOne f x).map .move
    | [.kw (.field f), .eq, x, .semi, .kw .set, .kw (.field g), .eq, y] => (setTwo f g x y).map .move
    | _ => .error .badOperands
  | .poke =>
    match args with
    | [.kw .gen, .num a, .comma, .num b] => (pokeMove .generic a b).map .move
    | [.kw .raw, .num a, .comma, .num b] => (pokeMove .raw a b).map .move
    | _ => .error .badOperands
  | .idle =>
    match args with
    | [.num n] => .ok (.move (.hostSetIdle n))
    | _ => .error .badOperands
  | .clrIrq =>
    match args with
    | [] => .ok (.move .hostClrIrq)
    | _ => .error .badOperands
  | .sprFlags =>
    match args with
    | [x, y] =>
      match bitOf x, bitOf y with
      | .ok z, .ok o => .ok (.move (.hostSetSprflags z o))
      | .error e, _ => .error e
      | .ok _, .error e => .error e
    | _ => .error .badOperands
  | .tick =>
    match args with
    | [.num n] => .ok (.tick n)
    | _ => .error .badOperands
  | .runTo =>
    match args with
    | [.num s, .comma, .num d] => if s ≤ 261 ∧ d ≤ 340 then .ok (.runTo s d) else .error .coordinatesOutOfRange
    | _ => .error .badOperands
  | .mnemonic i =>
    match args with
    | [] => .ok (.move i)
    | _ => .error .badOperands
  | .gen | .raw | .yes | .no | .field _ | .elem _ | .stage _ => .error .notALine

/-- The line that lexemes make. -/
def parseLine : List Lexeme → Except DecodeError ScriptLine
  | [] => .error .emptyLine
  | .kw k :: args => parseArgs k args
  | _ => .error .notALine

/-- Reads one line of script text. -/
def decodeLine (line : Text) : Except DecodeError ScriptLine :=
  match lex line with
  | .ok ls => parseLine ls
  | .error e => .error e

/-- THE DECODER: the instruction one line of text writes; `TICK 1` is ADVANCE. -/
def decode (line : Text) : Except DecodeError Instr :=
  match decodeLine line with
  | .ok (.move i) => .ok i
  | .ok (.tick n) => if n = 1 then .ok .advance else .error .notOneMove
  | .ok (.runTo _ _) => .error .notOneMove
  | .error e => .error e

/-! ### Whole scripts -/

/-- The line without its comment, which `--` opens. -/
def stripComment : Text → Text
  | [] => []
  | c :: cs => if c = 0x2D#8 ∧ cs.head? = some 0x2D#8 then [] else c :: stripComment cs

/-- The lines of a text, `cur` being the line read so far. -/
def linesFrom (cur : Text) : Text → List Text
  | [] => [cur]
  | c :: cs => if c = 0x0A#8 then cur :: linesFrom [] cs else linesFrom (cur ++ [c]) cs

/-- The lines of a script; one that holds nothing but a comment is skipped. DESIGN CHOICE (log 14): a line
that does not decode is an error of the whole script. -/
def decodeLines : List Text → Except DecodeError (List ScriptLine)
  | [] => .ok []
  | l :: ls =>
    match lex (stripComment l), decodeLines ls with
    | .ok [], r => r
    | .ok (x :: xs), r =>
      match parseLine (x :: xs), r with
      | .ok sl, .ok sls => .ok (sl :: sls)
      | .error e, _ => .error e
      | .ok _, .error e => .error e
    | .error e, _ => .error e

/-- Reads a script, one line for each line feed. -/
def decodeScript (text : Text) : Except DecodeError (List ScriptLine) := decodeLines (linesFrom [] text)

/-- The place of `(s, d)` in a frame of 341 × 262 ticks. -/
def framePos (s d : Nat) : Nat := s * 341 + d

/-- The ticks from `(s₀, d₀)` to the next time the counters read `(s, d)`, none if they read it now
(40_scheduler.md R107, R111; "until the counters read", R91, as log 14 reads it). -/
def ticksTo (s₀ d₀ s d : Nat) : Nat := (framePos s d + 89342 - framePos s₀ d₀) % 89342

/-- Where the counters stand after a move: a reinitialisation sets them, a tick advances them. -/
def posAfter (p : Nat × Nat) : Instr → Nat × Nat
  | .hostReinit S0 => (S0.scanline, S0.dot)
  | .advance => if p.2 = 340 then ((p.1 + 1) % 262, 0) else (p.1, p.2 + 1)
  | _ => p

/-- The moves of a script from counters `(s, d)` on: `TICK n` is n calls of `advance()`, "RUNTO …
expands to repeated TICK 1" (R91). DESIGN CHOICE (log 14): RUNTO from counters that no tick has (after an
INIT that R261 refuses) is an error of the whole script; R91 is silent on it. -/
def expandScript (s d : Nat) : List ScriptLine → Except DecodeError (List Instr)
  | [] => .ok []
  | .move i :: rest => (expandScript (posAfter (s, d) i).1 (posAfter (s, d) i).2 rest).map fun r => i :: r
  | .tick n :: rest =>
    let p := (framePos s d + n) % 89342
    (expandScript (p / 341) (p % 341) rest).map fun r => List.replicate n .advance ++ r
  | .runTo s' d' :: rest =>
    if s ≤ 261 ∧ d ≤ 340 then
      (expandScript s' d' rest).map fun r => List.replicate (ticksTo s d s' d') .advance ++ r
    else .error .coordinatesOutOfRange

/-! ### The encoder -/

/-- The value an INIT line gives an element. -/
def Elem.value (e : Elem) (S0 : InitImage) : Lexeme :=
  match e with
  | .dot => .num S0.dot
  | .scanline => .num S0.scanline
  | .v => .num S0.v
  | .slo => .num S0.slo
  | .shi => .num S0.shi
  | .alo => .num S0.alo
  | .ahi => .num S0.ahi
  | .ntLatch => .num S0.ntLatch
  | .atLatch => .num S0.atLatch
  | .ptLoLatch => .num S0.ptLoLatch
  | .ptHiLatch => .num S0.ptHiLatch
  | .ptBase => .num S0.ptBase
  | .stage => .kw (.stage S0.stage)
  | .idle => .num S0.idle
  | .cpVis => .num S0.cpVis
  | .cpPre => .num S0.cpPre
  | .vblank => .kw (if S0.vblank then .yes else .no)
  | .irq => .kw (if S0.irq then .yes else .no)
  | .spriteZeroHit => .kw (if S0.spriteZeroHit then .yes else .no)
  | .spriteOverflow => .kw (if S0.spriteOverflow then .yes else .no)
  | .frameParity => .num S0.frameParity

/-- `k = v, k = v, …`. -/
def initLexemes (S0 : InitImage) : List Elem → List Lexeme
  | [] => []
  | [e] => [.kw (.elem e), .eq, e.value S0]
  | e :: rest => .kw (.elem e) :: .eq :: e.value S0 :: .comma :: initLexemes S0 rest

/-- The number of a bit. -/
def bitNum (b : Bool) : Lexeme := .num b.toNat

/-- `SET E.f = b`. -/
def setLexemes (f : EField) (x : Lexeme) : List Lexeme := [.kw .set, .kw (.field f), .eq, x]

/-- One or both of the two fields of a row. -/
def setPairLexemes (f g : EField) : Option Bool → Option Bool → List Lexeme
  | some a, some b => setLexemes f (bitNum a) ++ .semi :: setLexemes g (bitNum b)
  | some a, none => setLexemes f (bitNum a)
  | none, some b => setLexemes g (bitNum b)
  | none, none => []

/-- The lexemes of an instruction's line: a micro-operation by its mnemonic, a host action by its script
line. -/
def Instr.lexemes : Instr → List Lexeme
  | .advance => [.kw .tick, .num 1]
  | .hostSetCtrl a b => setPairLexemes .bgPatternSelect .irqEnable a b
  | .hostSetMask a b => setPairLexemes .showBg .showSpr a b
  | .hostSetT x => setLexemes .t (.num x)
  | .hostSetFinex x => setLexemes .fineX (.num x)
  | .hostSetIdle n => [.kw .idle, .num n]
  | .hostClrIrq => [.kw .clrIrq]
  | .hostSetSprflags z o => [.kw .sprFlags, bitNum z, bitNum o]
  | .hostPoke .generic a b => [.kw .poke, .kw .gen, .num a.toNat, .comma, .num b.toNat]
  | .hostPoke .raw a b => [.kw .poke, .kw .raw, .num a.toNat, .comma, .num b.toNat]
  | .hostReinit S0 => .kw .init :: initLexemes S0 Elem.all
  | .hostObserve => [.kw (.mnemonic .hostObserve)]
  | .tickMask => [.kw (.mnemonic .tickMask)]
  | .snapshot => [.kw (.mnemonic .snapshot)]
  | .vblSet => [.kw (.mnemonic .vblSet)]
  | .irqRaise => [.kw (.mnemonic .irqRaise)]
  | .vblClear => [.kw (.mnemonic .vblClear)]
  | .statusWrite => [.kw (.mnemonic .statusWrite)]
  | .srReload => [.kw (.mnemonic .srReload)]
  | .atRecompute => [.kw (.mnemonic .atRecompute)]
  | .fetchStall257 => [.kw (.mnemonic .fetchStall257)]
  | .fetchIdle => [.kw (.mnemonic .fetchIdle)]
  | .fetchNtDummy => [.kw (.mnemonic .fetchNtDummy)]
  | .fetchNt => [.kw (.mnemonic .fetchNt)]
  | .fetchAt => [.kw (.mnemonic .fetchAt)]
  | .fetchPtlo => [.kw (.mnemonic .fetchPtlo)]
  | .fetchPthiVis => [.kw (.mnemonic .fetchPthiVis)]
  | .fetchPthiPre => [.kw (.mnemonic .fetchPthiPre)]
  | .incFineY => [.kw (.mnemonic .incFineY)]
  | .copyH => [.kw (.mnemonic .copyH)]
  | .cpReset => [.kw (.mnemonic .cpReset)]
  | .copyV => [.kw (.mnemonic .copyV)]
  | .incCoarseXVis => [.kw (.mnemonic .incCoarseXVis)]
  | .incCoarseXPre => [.kw (.mnemonic .incCoarseXPre)]
  | .srShift => [.kw (.mnemonic .srShift)]
  | .pixelBg => [.kw (.mnemonic .pixelBg)]
  | .pixelForcedV => [.kw (.mnemonic .pixelForcedV)]
  | .pixelForcedDefault => [.kw (.mnemonic .pixelForcedDefault)]
  | .pixelEmit => [.kw (.mnemonic .pixelEmit)]
  | .counterAdvance => [.kw (.mnemonic .counterAdvance)]
  | .parityToggle => [.kw (.mnemonic .parityToggle)]

/-- How a lexeme is written. -/
def Lexeme.text : Lexeme → Text
  | .kw k => k.spell
  | .num n => natText n
  | .eq => ascii "="
  | .comma => ascii ","
  | .semi => ascii ";"

/-- Lexemes with a blank between each two. -/
def render : List Lexeme → Text
  | [] => []
  | [l] => l.text
  | l :: rest => l.text ++ 0x20#8 :: render rest

/-- THE ENCODER: the line of text of an instruction that has one (`Instr.scriptable`). -/
def encode (i : Instr) : Text := render i.lexemes

end Sys2Proof
end

