-- ==== Sys2Proof/Machine/State.lean ====
section
/-! DEFINITION. The machine's state: the block's tuple S (10_state.md R20), the host's inputs E (R36), the memory subsystem's
contents (20_memory.md R50-R55), the parameters (00_scope.md R6) and four fields of the model's own; faults and refusals. -/

namespace Sys2Proof.Machine

/-- What one read port answers: a list of (address, byte), addresses strictly rising. An address that
is not listed is not answered (log 3), and one that is listed is always answered (log 20). -/
abbrev Memory := List Host.Cell

/-- The frame buffer: a list of (row · 256 + column, three bytes), positions strictly rising. A cell
that is not listed holds no value (10_state.md R35). -/
abbrev FrameBuffer := List (Nat × RGB)

/-- The events of a tick, in order (00_scope.md R11). -/
inductive Event where
  /-- the one-tick output pulse of VBL_SET (45_vblank.md R210) -/
  | vblankEdge
  /-- a read that the memory subsystem answered with `byte` (20_memory.md R51, R52) -/
  | read (port : Port) (addr : Addr) (byte : Byte)
  /-- the status write (20_memory.md R53) -/
  | write (addr : Addr) (byte : Byte) (token : CallerToken)
  /-- a pixel written to the frame buffer (44_pixel_renderer.md R195) -/
  | pixel (row col : Nat) (color : RGB)
  deriving DecidableEq, Repr

/-- The machine. -/
structure State where
  -- the block's tuple S (10_state.md R20-R35)
  dot : Nat
  scanline : Nat
  v : VReg
  slo : Pattern
  shi : Pattern
  alo : Byte
  ahi : Byte
  ntLatch : Byte
  atLatch : Byte
  ptLoLatch : Byte
  ptHiLatch : Byte
  ptBase : Addr
  stage : Stage
  idle : Nat
  cpVis : Nat
  cpPre : Nat
  vblank : Bool
  irq : Bool
  spriteZeroHit : Bool
  spriteOverflow : Bool
  frameParity : BitVec 1
  fb : FrameBuffer
  -- the host's inputs E (10_state.md R36)
  ext : Snapshot
  -- the memory subsystem (20_memory.md R50-R55)
  gen : Memory
  raw : Memory
  statusByte : Byte
  statusAccepts : Bool
  -- the parameters (00_scope.md R6)
  params : Params
  -- the model's own: E as SNAPSHOT sampled it, the palette address on its way to PIXEL_EMIT, the last
  -- tick's events, and the host moves that wait
  snap : Snapshot
  pa : Addr
  events : List Event
  pending : List Instr
  deriving DecidableEq, Repr

/-- The operation of a memory failure: "read and its port, or write" with what it carried
(60_exceptions.md R230). -/
inductive MemOp where
  | read (port : Port) (addr : Addr)
  | write (addr : Addr) (byte : Byte) (token : CallerToken)
  deriving DecidableEq, Repr

/-- How a tick ends badly (60_exceptions.md R230, R231). Each fault records the tick `(s, d)`, what
failed, the events of the tick before it, and the state before the tick (before the micro-operation,
where that is run by itself). -/
inductive Fault where
  /-- Code 1: a read that is not answered (any fetch read, the palette read) or a status write that is not
  accepted. Safe: the spec's own fault. -/
  | memoryContract (scanline dot : Nat) (op : MemOp) (events : List Event) (pre : State)
  /-- Code 2: PIXEL_EMIT read a palette byte of 0x40 or more. Safe: the spec's own fault. -/
  | paletteValueOutOfRange (scanline dot : Nat) (pa : Addr) (byte : Byte) (events : List Event) (pre : State)
  deriving DecidableEq, Repr

/-- Why the machine has no meaning for a move. -/
inductive Refusal where
  /-- An instruction that has no meaning yet, by its mnemonic. Raised by `exec` only. Safe. -/
  | notModelled (mnemonic : String)
  /-- Code 3: HOST_REINIT with a state that 70_reset_and_hazards.md R261 does not admit. Safe: the spec's
  own refusal. -/
  | initOutOfRange
  /-- A micro-operation stands where only a host move may: the host "cannot act inside a tick"
  (60_exceptions.md R249). Raised by `step`. Safe. -/
  | notAHostMove
  /-- A host move stands where only a micro-operation may. Raised by `microExec`, which no tick calls so.
  Safe. -/
  | notAMicroOp
  /-- PIXEL_EMIT by itself at coordinates outside scanlines 8..231, dots 1..256, where the frame buffer
  has no cell (30_encoding.md R86) and no tick issues it. Safe. -/
  | noFrameBufferCell
  deriving DecidableEq, Repr

/-- The host's inputs before it sets any (log 2). DESIGN CHOICE: all zero; unsafe. -/
def noInputs : Snapshot where
  showBg := false
  showSpr := false
  bgPatternSelect := false
  irqEnable := false
  t := 0#15
  fineX := 0#3

/-- The machine after reset: the block at REF_INIT (10_state.md R41), which the spec gives as its own
choice, since "the source gives no reset value" (log 1); the host's side as log 2, 3 and 5 say. -/
def State.reset : State where
  dot := 0
  scanline := 0
  v := 0#15
  slo := 0#16
  shi := 0#16
  alo := 0#8
  ahi := 0#8
  ntLatch := 0#8
  atLatch := 0#8
  ptLoLatch := 0#8
  ptHiLatch := 0#8
  ptBase := 0#14
  stage := .NT
  idle := 0
  cpVis := 8
  cpPre := 328
  vblank := false
  irq := false
  spriteZeroHit := false
  spriteOverflow := false
  frameParity := 0#1
  fb := []
  ext := noInputs
  gen := []
  raw := []
  statusByte := 0#8
  statusAccepts := true
  params := Config.params
  snap := noInputs
  pa := 0#14
  events := []
  pending := []

end Sys2Proof.Machine
end

