-- ==== Sys2Proof/Machine/Ops.lean ====
section
/-! DEFINITION. The shared operations: outcomes in sequence, sorted cells, the read ports, the status write, the frame-buffer
write, and raising a fault. -/

namespace Sys2Proof.Machine

/-- How a move or a micro-operation ends. -/
abbrev Out := Host.Outcome State Fault Refusal

/-- `f` after `o`; a fault or a refusal ends it there (60_exceptions.md R231). -/
def andThen (o : Out) (f : State → Out) : Out :=
  match o with
  | .next s => f s
  | .fault r => .fault r
  | .refused r => .refused r

/-! ## Sorted cells -/

/-- The value listed at `k`, if there is one. -/
def cellAt {α : Type} (k : Nat) : List (Nat × α) → Option α
  | [] => none
  | (k', x) :: rest => if k = k' then some x else cellAt k rest

/-- The cells with `x` at `k`, in order. -/
def putCell {α : Type} (k : Nat) (x : α) : List (Nat × α) → List (Nat × α)
  | [] => [(k, x)]
  | (k', y) :: rest =>
    if k < k' then (k, x) :: (k', y) :: rest
    else if k = k' then (k, x) :: rest
    else (k', y) :: putCell k x rest

/-- The cells' keys rise strictly from above `lo` and stay below `bound`. -/
def cellsFrom {α : Type} (lo bound : Nat) : List (Nat × α) → Bool
  | [] => true
  | (k, _) :: rest => decide (lo ≤ k) && decide (k < bound) && cellsFrom (k + 1) bound rest

/-- A memory's canonical form: addresses strictly rising, all of 14 bits (20_memory.md R50). -/
def Memory.wf (m : Memory) : Bool := cellsFrom 0 0x4000 m

/-- A frame buffer's canonical form: positions strictly rising, all of its 224 × 256 cells. -/
def FrameBuffer.wf (f : FrameBuffer) : Bool := cellsFrom 0 57344 f

/-! ## The read ports (20_memory.md R51, R52) -/

/-- The contents a port answers from. -/
def State.memory (s : State) : Port → Memory
  | .generic => s.gen
  | .raw => s.raw

/-- The byte a port answers at an address, or none where it does not answer. DESIGN CHOICE (log 20):
the spec lets the host fail any read (60_exceptions.md R239, "the byte, or failure"); here a read fails
exactly where the address is not listed, and no move takes an address off the list. -/
def State.readByte (s : State) (p : Port) (a : Addr) : Option Byte := cellAt a.toNat (s.memory p)

/-- `HOST_POKE`'s effect on one view (60_exceptions.md R247). -/
def State.pokeByte (s : State) (p : Port) (a : Addr) (b : Byte) : State :=
  match p with
  | .generic => { s with gen := putCell a.toNat b s.gen }
  | .raw => { s with raw := putCell a.toNat b s.raw }

/-- One more event of this tick. -/
def State.emit (s : State) (e : Event) : State := { s with events := s.events ++ [e] }

/-! ## Raising a fault (60_exceptions.md R230, R231), and the codes of what ends a run

The block takes no trap (R236): it saves nothing, changes no mode and goes nowhere. A fault is a
record, and the run ends. -/

/-- The codes of the fault kinds (60_exceptions.md R230; D44). -/
def Fault.code : Fault → Nat
  | .memoryContract _ _ _ _ _ => 1
  | .paletteValueOutOfRange _ _ _ _ _ _ => 2

/-- The code of the refusal the spec gives, `InitOutOfRange` (60_exceptions.md R232; D34, D44). The
model's own refusals have none. -/
def Refusal.code (r : Refusal) : Option Nat := if r = .initOutOfRange then some 3 else none

/-- `raise Fault(MemoryContract)`: the record of code 1. -/
def raiseMemory (s : State) (op : MemOp) : Out := .fault (.memoryContract s.scanline s.dot op s.events s)

/-- `raise Fault(PaletteValueOutOfRange)`: the record of code 2. -/
def raisePalette (s : State) (pa : Addr) (b : Byte) : Out :=
  .fault (.paletteValueOutOfRange s.scanline s.dot pa b s.events s)

/-- The fault with the state before the tick beside it: "a model keeps the pre-tick state beside the
fault record" (R231). -/
def Fault.withPre (pre : State) : Fault → Fault
  | .memoryContract sl d op ev _ => .memoryContract sl d op ev pre
  | .paletteValueOutOfRange sl d pa b ev _ => .paletteValueOutOfRange sl d pa b ev pre

/-- The state a fault keeps beside its record. -/
def Fault.pre : Fault → State
  | .memoryContract _ _ _ _ pre => pre
  | .paletteValueOutOfRange _ _ _ _ _ pre => pre

/-- A tick's outcome, a fault carrying the pre-tick state. -/
def keepPre (pre : State) (o : Out) : Out :=
  match o with
  | .next s => .next s
  | .fault r => .fault (r.withPre pre)
  | .refused r => .refused r

/-! ## Memory accesses -/

/-- `MemRead(port, addr, 1)`, then `k` with the byte: the read is an event, and one that is not answered
is MemoryContract (20_memory.md R51, R52, R55). Which reads are answered: `State.readByte` (log 3, 20). -/
def memRead (p : Port) (a : Addr) (s : State) (k : Byte → State → Out) : Out :=
  match s.readByte p a with
  | some b => k b (s.emit (.read p a b))
  | none => raiseMemory s (.read p a)

/-- `MemWrite(STATUS_ADDR, 1, b, PPU_TOKEN)`: the byte goes to the status location and nowhere else
(20_memory.md R53, R54); one that is not accepted is MemoryContract (R55). -/
def statusWrite (b : Byte) (s : State) : Out :=
  if s.statusAccepts then
    .next ({ s with statusByte := b }.emit (.write s.params.statusAddr b s.params.token))
  else raiseMemory s (.write s.params.statusAddr b s.params.token)

/-! ## The frame buffer (10_state.md R35, 30_encoding.md R86) -/

/-- The list position of row, column. -/
def fbPos (row col : Nat) : Nat := row * 256 + col

/-- The cell at row, column, or no value. -/
def State.fbCell (s : State) (row col : Nat) : Option RGB := cellAt (fbPos row col) s.fb

/-- `fb[row][col] <- color`, with its event. -/
def State.putPixel (s : State) (row col : Nat) (color : RGB) : State :=
  { s with fb := putCell (fbPos row col) color s.fb }.emit (.pixel row col color)

end Sys2Proof.Machine
end

