-- ==== Sys2Proof/Machine/Operands.lean ====
section
/-! DEFINITION. Register fields and the assembly of every operand (00_scope.md R9; 30_encoding.md R70-R87). -/

namespace Sys2Proof.Machine

/-! ## Fields of `v` and `t` (00_scope.md R9, 30_encoding.md R70) -/

/-- `v[4:0]`. -/
def coarseX (v : VReg) : BitVec 5 := v.extractLsb' 0 5

/-- `v[9:5]`. -/
def coarseY (v : VReg) : BitVec 5 := v.extractLsb' 5 5

/-- `v[10]`, the horizontal nametable select (D8). -/
def ntH (v : VReg) : Bool := v.getLsbD 10

/-- `v[11]`, the vertical nametable select (D8). -/
def ntV (v : VReg) : Bool := v.getLsbD 11

/-- `v[11:10]`. -/
def nametableSelect (v : VReg) : BitVec 2 := v.extractLsb' 10 2

/-- `v[14:12]`. -/
def fineY (v : VReg) : BitVec 3 := v.extractLsb' 12 3

/-- `v` with coarse Y replaced. -/
def setCoarseY (v : VReg) (cy : BitVec 5) : VReg := (v &&& ~~~0x03E0#15) ||| (cy.setWidth 15 <<< 5)

/-- `v` with fine Y replaced. -/
def setFineY (v : VReg) (fy : BitVec 3) : VReg := (v &&& ~~~0x7000#15) ||| (fy.setWidth 15 <<< 12)

/-- The horizontal bit-fields, coarse X and `v[10]` (R71). -/
def horizontalMask : VReg := 0x041F#15

/-- The vertical bit-fields, coarse Y, fine Y and `v[11]` (R71). -/
def verticalMask : VReg := 0x7BE0#15

/-- `v` with the bits of `mask` taken from `t` (41_address_pathway.md R121, R122). -/
def copyBits (mask v t : VReg) : VReg := (v &&& ~~~mask) ||| (t &&& mask)

/-- COARSE_Y_WRAP and COARSE_Y_CORRUPT (00_scope.md R5). -/
def coarseYWrap : BitVec 5 := 29#5

/-- The out-of-range value that wraps without the toggle (00_scope.md R5). -/
def coarseYCorrupt : BitVec 5 := 31#5

/-- The coarse-Y half of the fine-Y increment (41_address_pathway.md R120): 29 wraps and toggles
`v[11]`, 31 wraps without the toggle, any other value counts up. -/
def nextCoarseY (v : VReg) : VReg :=
  if coarseY v = coarseYWrap then setCoarseY v 0#5 ^^^ 0x0800#15
  else if coarseY v = coarseYCorrupt then setCoarseY v 0#5
  else setCoarseY v (coarseY v + 1#5)

/-- INC_FINE_Y's value (41_address_pathway.md R120). -/
def incY (v : VReg) : VReg := if fineY v ≠ 7#3 then v + 0x1000#15 else nextCoarseY (setFineY v 0#3)

/-- `incX(v)` (41_address_pathway.md R124). -/
def incX (v : VReg) : VReg := if coarseX v = 31#5 then (v &&& ~~~0x001F#15) ^^^ 0x0400#15 else v + 1#15

/-! ## Addresses (30_encoding.md R80-R85) -/

/-- `v & 0x3FFF`: the 14-bit bus value of `v` (20_memory.md R50). -/
def busAddr (v : VReg) : Addr := v.setWidth 14

/-- `ntAddr(v) = 0x2000 | (v & 0x0FFF)` (R80). -/
def ntAddr (v : VReg) : Addr := 0x2000#14 ||| (busAddr v &&& 0x0FFF#14)

/-- `atAddr(v) = 0x23C0 | (v & 0x0C00) | ((v >> 4) & 0x38) | ((v >> 2) & 0x07)` (R81). -/
def atAddr (v : VReg) : Addr :=
  0x23C0#14 ||| (busAddr v &&& 0x0C00#14) ||| (busAddr (v >>> 4) &&& 0x38#14) ||| (busAddr (v >>> 2) &&& 0x07#14)

/-- `ptAddr(sel, nt, v) = (sel ? 0x1000 : 0) | (nt << 4) | ((v & 0x7000) >> 12)` (R82). -/
def ptAddr (sel : Bool) (nt : Byte) (v : VReg) : Addr :=
  (if sel then 0x1000#14 else 0#14) ||| (nt.setWidth 14 <<< 4) ||| busAddr ((v &&& 0x7000#15) >>> 12)

/-- The pattern-high address `ptBase + 8`, modulo 0x4000 (R83). -/
def ptHighAddr (base : Addr) : Addr := base + 8#14

/-- PALETTE_BASE (00_scope.md R5). -/
def paletteBase : Addr := 0x3F00#14

/-- `palAddr = 0x3F00 | index` (R85). -/
def palAddr (index : BitVec 4) : Addr := paletteBase ||| index.setWidth 14

/-! ## Attribute group and pixel index (30_encoding.md R73, R74, R84, R87) -/

/-- The 2-bit group `(atLatch >> (4·v[5] + 2·v[0])) & 3` (R84; D13). -/
def attrGroup (atLatch : Byte) (v : VReg) : BitVec 2 :=
  (atLatch >>> (4 * (v.getLsbD 5).toNat + 2 * (v.getLsbD 0).toNat)).setWidth 2

/-- "replicate the selected … bit across all 8 positions" (R84). -/
def replicateBit (b : Bool) : Byte := if b then 0xFF#8 else 0x00#8

/-- `bitAt(r, fx) = (r >> fx) & 1` (R87). -/
def bitAt {w : Nat} (r : BitVec w) (fx : BitVec 3) : BitVec 1 := (r >>> fx.toNat).setWidth 1

/-- The 4-bit palette index: pattern-low, pattern-high, attribute-low, attribute-high from bit 0 up
(R74, 43_shift_mux.md R175). -/
def muxIndex (slo shi : Pattern) (alo ahi : Byte) (fx : BitVec 3) : BitVec 4 :=
  (bitAt slo fx).setWidth 4 ||| ((bitAt shi fx).setWidth 4 <<< 1) ||| ((bitAt alo fx).setWidth 4 <<< 2)
    ||| ((bitAt ahi fx).setWidth 4 <<< 3)

/-- The upper 8 bits of a pattern register replaced by a fetched byte, with no bit reversal
(43_shift_mux.md R172; D14). -/
def loadHigh (r : Pattern) (b : Byte) : Pattern := (r &&& 0x00FF#16) ||| (b.setWidth 16 <<< 8)

/-! ## Constants of the schedule (00_scope.md R5) -/

/-- DOTS_PER_LINE − 1. -/
def lastDot : Nat := 340

/-- LINES_PER_FRAME. -/
def linesPerFrame : Nat := 262

/-- SPRITE_WINDOW_STALL: 63 ticks (42_fetch_pipeline.md R141). -/
def spriteWindowStall : Nat := 63

/-- The idle tick after each fetch (42_fetch_pipeline.md R143; D9). -/
def fetchIdleTicks : Nat := 1

/-- CP_RESET's value of `cpVis` (41_address_pathway.md R123; D6). -/
def cpVisStart : Nat := 8

/-- CP_RESET's value of `cpPre` (41_address_pathway.md R123; D6). -/
def cpPreStart : Nat := 328

/-- "every 8 ticks from a movable checkpoint" (41_address_pathway.md R125). -/
def checkpointStride : Nat := 8

/-! ## The port of a fetch stage (42_fetch_pipeline.md R150) -/

/-- `X ∈ RAW_FETCH_STAGES`. -/
def RawStages.holds : RawStages → Stage → Bool
  | .ntAt, .NT => true
  | .ntAt, .AT => true
  | .ntPtlo, .NT => true
  | .ntPtlo, .PTLO => true
  | .ntPthi, .NT => true
  | .ntPthi, .PTHI => true
  | .atPtlo, .AT => true
  | .atPtlo, .PTLO => true
  | .atPthi, .AT => true
  | .atPthi, .PTHI => true
  | .ptloPthi, .PTLO => true
  | .ptloPthi, .PTHI => true
  | _, _ => false

/-- `port(X) = raw` if `X ∈ RAW_FETCH_STAGES`, `generic` otherwise. -/
def State.portOf (s : State) (st : Stage) : Port := if RawStages.holds s.params.rawStages st then .raw else .generic

/-! ## Frame-buffer position of the current pixel (30_encoding.md R86) -/

/-- Row `s − 8`. -/
def State.pixelRow (s : State) : Nat := s.scanline - 8

/-- Column `d − 1`. -/
def State.pixelCol (s : State) : Nat := s.dot - 1

end Sys2Proof.Machine
end

