-- ==== Sys2Proof/Machine/Flags.lean ====
section
/-! DEFINITION. Status flags, the interrupt request and the operating conditions (10_state.md R31-R34, R37; 60_exceptions.md
R233, R234, R238). -/

namespace Sys2Proof.Machine

/-- `vblank <- true` and the VBlankEdge pulse (45_vblank.md R210). -/
def State.setVblank (s : State) : State := { s with vblank := true }.emit .vblankEdge

/-- `vblank`, `spriteZeroHit` and `spriteOverflow` cleared (45_vblank.md R212). -/
def State.clearFlags (s : State) : State :=
  { s with vblank := false, spriteZeroHit := false, spriteOverflow := false }

/-- `if E.irqEnable: irq <- true`; a request that is already raised stays raised (45_vblank.md R211,
60_exceptions.md R234). -/
def State.raiseIrq (s : State) : State := if s.snap.irqEnable then { s with irq := true } else s

/-- The consumer's clear (60_exceptions.md R245). -/
def State.clearIrq (s : State) : State := { s with irq := false }

/-- The "composite cleared-flags byte": three false flags make 0x00 whatever bits they have
(30_encoding.md R75; D18). -/
def clearedFlagsByte : Byte := 0x00#8

/-- A request edge: `irq` goes from false to true (60_exceptions.md R234). -/
def irqEdge (before after : State) : Bool := !before.irq && after.irq

/-- The VBlankEdge pulse of the last tick. -/
def State.vblankEdge (s : State) : Bool := s.events.contains .vblankEdge

/-- The line classes (60_exceptions.md R238, 10_state.md R22). -/
inductive LineClass where
  | visible
  | idleLine
  | verticalBlank
  | preRender
  deriving DecidableEq, Repr

/-- Visible 0..239, idle 240, VBlank 241..260, pre-render 261 (60_exceptions.md R238). -/
def lineClass (scanline : Nat) : Option LineClass :=
  if scanline ≤ 239 then some .visible
  else if scanline = 240 then some .idleLine
  else if scanline ≤ 260 then some .verticalBlank
  else if scanline = 261 then some .preRender
  else none

/-- What the `select` conditions of R88 see: the tick's start coordinates `(sl, d)`, the snapshot, and
the state as the lines before left it. -/
def State.tickCtx (s : State) (sl d : Nat) : TickCtx where
  scanline := sl
  dot := d
  liveMask := s.params.liveMask
  e := s.snap
  vblank := s.vblank
  stage := s.stage
  idle := s.idle
  cpVis := s.cpVis
  cpPre := s.cpPre
  v := s.v

end Sys2Proof.Machine
end

