-- ==== Sys2Proof/Machine/Address.lean ====
section
/-! DEFINITION. AddressPathway (41_address_pathway.md): the increments and copies of `v`, and the checkpoints. -/

namespace Sys2Proof.Machine

/-- INC_FINE_Y (R120). -/
def execIncFineY (s : State) : Out := .next { s with v := incY s.v }

/-- COPY_H (R121). -/
def execCopyH (s : State) : Out := .next { s with v := copyBits horizontalMask s.v s.snap.t }

/-- COPY_V (R122). -/
def execCopyV (s : State) : Out := .next { s with v := copyBits verticalMask s.v s.snap.t }

/-- CP_RESET (R123). -/
def execCpReset (s : State) : Out := .next { s with cpVis := cpVisStart, cpPre := cpPreStart }

/-- INC_COARSE_X_VIS (R125). -/
def execIncCoarseXVis (s : State) : Out := .next { s with v := incX s.v, cpVis := s.cpVis + checkpointStride }

/-- INC_COARSE_X_PRE (R126). -/
def execIncCoarseXPre (s : State) : Out := .next { s with v := incX s.v, cpPre := s.cpPre + checkpointStride }

end Sys2Proof.Machine
end

