-- ==== Sys2Proof/Machine/Fetch.lean ====
section
/-! DEFINITION. BackgroundFetchPipeline (42_fetch_pipeline.md): the idle counter, the stall and the fetch stages. -/

namespace Sys2Proof.Machine

/-- FETCH_IDLE (R140). -/
def execFetchIdle (s : State) : Out := .next { s with idle := s.idle - 1 }

/-- FETCH_STALL_257 (R141). -/
def execFetchStall257 (s : State) : Out := .next { s with idle := spriteWindowStall }

/-- FETCH_NT (R144). -/
def execFetchNt (s : State) : Out :=
  memRead (s.portOf .NT) (ntAddr s.v) s fun b s' =>
    .next { s' with ntLatch := b, stage := .AT, idle := fetchIdleTicks }

/-- FETCH_AT (R145). -/
def execFetchAt (s : State) : Out :=
  memRead (s.portOf .AT) (atAddr s.v) s fun b s' =>
    .next { s' with atLatch := b, stage := .PTLO, idle := fetchIdleTicks }

/-- The pattern base of this tick's select, nametable latch and fine Y (R146, R147). -/
def State.patternBase (s : State) : Addr := ptAddr s.snap.bgPatternSelect s.ntLatch s.v

/-- FETCH_PTLO (R146): the base is latched, and the byte at it read. -/
def execFetchPtlo (s : State) : Out :=
  memRead (s.portOf .PTLO) s.patternBase s fun b s' =>
    .next { s' with ptBase := s.patternBase, ptLoLatch := b, stage := .PTHI, idle := fetchIdleTicks }

/-- FETCH_PTHI_VIS (R147): the base is recomputed and stored (D11). -/
def execFetchPthiVis (s : State) : Out :=
  memRead (s.portOf .PTHI) (ptHighAddr s.patternBase) s fun b s' =>
    .next { s' with ptBase := s.patternBase, ptHiLatch := b, stage := .NT, idle := fetchIdleTicks }

/-- FETCH_PTHI_PRE (R148): "using the already-computed base address without recomputation". -/
def execFetchPthiPre (s : State) : Out :=
  memRead (s.portOf .PTHI) (ptHighAddr s.ptBase) s fun b s' =>
    .next { s' with ptHiLatch := b, stage := .NT, idle := fetchIdleTicks }

/-- FETCH_NT_DUMMY (R149): the stage is unchanged (D10). -/
def execFetchNtDummy (s : State) : Out :=
  memRead (s.portOf .NT) (ntAddr s.v) s fun b s' => .next { s' with ntLatch := b, idle := fetchIdleTicks }

end Sys2Proof.Machine
end

