-- ==== Sys2Proof/Machine/Pixel.lean ====
section
/-! DEFINITION. PixelRenderer (44_pixel_renderer.md): the choice of the palette address, the palette read, the colour lookup
and the frame-buffer write. -/

namespace Sys2Proof.Machine

/-- PIXEL_BG (R191): the address of the mux (43_shift_mux.md R175). -/
def execPixelBg (s : State) : Out :=
  .next { s with pa := palAddr (muxIndex s.slo s.shi s.alo s.ahi s.snap.fineX) }

/-- PIXEL_FORCED_V (R192). -/
def execPixelForcedV (s : State) : Out := .next { s with pa := busAddr s.v }

/-- PIXEL_FORCED_DEFAULT (R193). -/
def execPixelForcedDefault (s : State) : Out := .next { s with pa := paletteBase }

/-- `RGB_TABLE[b]`, which has 64 entries (R194). -/
def State.rgbEntry (s : State) (b : Byte) : Option RGB := s.params.rgb[b.toNat]?

/-- The lookup and the write of R194 and R195, after the read: a byte of 0x40 or more has no entry and
faults (D15). -/
def emitColor (pa : Addr) (b : Byte) (s : State) : Out :=
  match s.rgbEntry b with
  | some color => .next (s.putPixel s.pixelRow s.pixelCol color)
  | none => raisePalette s pa b

/-- PIXEL_EMIT (R194, R195): the read always uses the generic port (D35). Outside the write window no
tick issues it and the frame buffer has no cell for it (log 12). -/
def execPixelEmit (s : State) : Out :=
  if writeWindow s.scanline s.dot then keepPre s (memRead .generic s.pa s fun b s' => emitColor s.pa b s')
  else .refused .noFrameBufferCell

end Sys2Proof.Machine
end

