-- ==== Sys2Proof/Machine/Shift.lean ====
section
/-! DEFINITION. ShiftAndMux (43_shift_mux.md): SR_SHIFT, SR_RELOAD, AT_RECOMPUTE. The mux is `muxIndex`. -/

namespace Sys2Proof.Machine

/-- SR_SHIFT (R170): the attribute registers are not shifted (R174). -/
def execSrShift (s : State) : Out := .next { s with slo := s.slo >>> 1, shi := s.shi >>> 1 }

/-- SR_RELOAD (R172), at the dots of R171. DEDUCED (log 21): the tile shown at dots 8k..8k+7 is the one
loaded at 8(k − 1) + 1, as R170, R172 and R176 give it; 70_reset_and_hazards.md R265 says 8k + 1. -/
def execSrReload (s : State) : Out :=
  .next { s with slo := loadHigh s.slo s.ptLoLatch, shi := loadHigh s.shi s.ptHiLatch }

/-- AT_RECOMPUTE (R173). -/
def execAtRecompute (s : State) : Out :=
  .next { s with
    alo := replicateBit ((attrGroup s.atLatch s.v).getLsbD 0)
    ahi := replicateBit ((attrGroup s.atLatch s.v).getLsbD 1) }

end Sys2Proof.Machine
end

