-- ==== Sys2Proof/Machine/VBlank.lean ====
section
/-! DEFINITION. VBlankController (45_vblank.md): VBL_SET, IRQ_RAISE, VBL_CLEAR, STATUS_WRITE. -/

namespace Sys2Proof.Machine

/-- VBL_SET (R210). -/
def execVblSet (s : State) : Out := .next s.setVblank

/-- IRQ_RAISE (R211). -/
def execIrqRaise (s : State) : Out := .next s.raiseIrq

/-- VBL_CLEAR (R212). -/
def execVblClear (s : State) : Out := .next s.clearFlags

/-- STATUS_WRITE (R213). -/
def execStatusWrite (s : State) : Out := statusWrite clearedFlagsByte s

end Sys2Proof.Machine
end

