-- ==== Sys2Proof/Machine/Scheduler.lean ====
section
/-! DEFINITION. CycleScheduler (40_scheduler.md): TICK_MASK, SNAPSHOT, COUNTER_ADVANCE, PARITY_TOGGLE, and the tick that ADVANCE
runs: the micro-operations the map of R88 issues, in order. -/

namespace Sys2Proof.Machine

/-- TICK_MASK (R101). -/
def execTickMask (s : State) : Out := .next { s with v := s.v &&& 0x3FFF#15 }

/-- SNAPSHOT (R102): every later use of E in the tick reads this sample. -/
def execSnapshot (s : State) : Out := .next { s with snap := s.ext }

/-- COUNTER_ADVANCE (R107). -/
def execCounterAdvance (s : State) : Out :=
  .next (if s.dot = lastDot then { s with dot := 0, scanline := (s.scanline + 1) % linesPerFrame }
    else { s with dot := s.dot + 1 })

/-- PARITY_TOGGLE (R108). -/
def execParityToggle (s : State) : Out := .next { s with frameParity := s.frameParity ^^^ 1#1 }

/-- A micro-operation of a tick. No tick hands over a host move: it is no part of one (R72). -/
def microExec (i : Instr) (s : State) : Out :=
  match i with
  | .tickMask => execTickMask s
  | .snapshot => execSnapshot s
  | .vblSet => execVblSet s
  | .irqRaise => execIrqRaise s
  | .vblClear => execVblClear s
  | .statusWrite => execStatusWrite s
  | .srReload => execSrReload s
  | .atRecompute => execAtRecompute s
  | .fetchStall257 => execFetchStall257 s
  | .fetchIdle => execFetchIdle s
  | .fetchNtDummy => execFetchNtDummy s
  | .fetchNt => execFetchNt s
  | .fetchAt => execFetchAt s
  | .fetchPtlo => execFetchPtlo s
  | .fetchPthiVis => execFetchPthiVis s
  | .fetchPthiPre => execFetchPthiPre s
  | .incFineY => execIncFineY s
  | .copyH => execCopyH s
  | .cpReset => execCpReset s
  | .copyV => execCopyV s
  | .incCoarseXVis => execIncCoarseXVis s
  | .incCoarseXPre => execIncCoarseXPre s
  | .srShift => execSrShift s
  | .pixelBg => execPixelBg s
  | .pixelForcedV => execPixelForcedV s
  | .pixelForcedDefault => execPixelForcedDefault s
  | .pixelEmit => execPixelEmit s
  | .counterAdvance => execCounterAdvance s
  | .parityToggle => execParityToggle s
  | .advance | .hostSetCtrl _ _ | .hostSetMask _ _ | .hostSetT _ | .hostSetFinex _ => .refused .notAMicroOp
  | .hostSetIdle _ | .hostClrIrq | .hostSetSprflags _ _ | .hostPoke _ _ _ => .refused .notAMicroOp
  | .hostObserve | .hostReinit _ => .refused .notAMicroOp

/-- Micro-operations in order; the first fault ends them (60_exceptions.md R231). -/
def runOps : List Instr → State → Out
  | [], s => .next s
  | i :: rest, s => andThen (microExec i s) (runOps rest)

/-- The steps of a tick that started at `(sl, d)`: each issues what the map selects on the state as the
steps before left it (R88, R100; log 13). -/
def runSteps (sl d : Nat) : List TickStep → State → Out
  | [], s => .next s
  | st :: rest, s => andThen (runOps (issued st (s.tickCtx sl d)) s) (runSteps sl d rest)

/-- A tick's start: its event list is empty. -/
def State.beginTick (s : State) : State := { s with events := [] }

/-- ADVANCE: one call of `advance()`, one tick (R100). -/
def execAdvance (s : State) : Out := keepPre s (runSteps s.scanline s.dot TickStep.order s.beginTick)

end Sys2Proof.Machine
end

