-- ==== Sys2Proof/Machine/Host.lean ====
section
/-! DEFINITION. The host interface: the moves between two ticks (60_exceptions.md R239-R249, 70_reset_and_hazards.md R260,
R261), what the host observes, and which move comes next. -/

namespace Sys2Proof.Machine

/-- HOST_SET_CTRL (R240); a field the move does not name keeps its value (log 16). -/
def execHostSetCtrl (bgPatternSelect irqEnable : Option Bool) (s : State) : Out :=
  .next { s with ext := { s.ext with
    bgPatternSelect := bgPatternSelect.getD s.ext.bgPatternSelect
    irqEnable := irqEnable.getD s.ext.irqEnable } }

/-- HOST_SET_MASK (R241); a field the move does not name keeps its value (log 16). -/
def execHostSetMask (showBg showSpr : Option Bool) (s : State) : Out :=
  .next { s with ext := { s.ext with
    showBg := showBg.getD s.ext.showBg
    showSpr := showSpr.getD s.ext.showSpr } }

/-- HOST_SET_T (R242): `E.t <- x & 0x7FFF`. -/
def execHostSetT (x : Nat) (s : State) : Out := .next { s with ext := { s.ext with t := BitVec.ofNat 15 x } }

/-- HOST_SET_FINEX (R243): `E.fineX <- x & 7`. -/
def execHostSetFinex (x : Nat) (s : State) : Out := .next { s with ext := { s.ext with fineX := BitVec.ofNat 3 x } }

/-- HOST_SET_IDLE (R244): the value replaces the counter (D22). -/
def execHostSetIdle (n : Nat) (s : State) : Out := .next { s with idle := n }

/-- HOST_CLR_IRQ (R245). -/
def execHostClrIrq (s : State) : Out := .next s.clearIrq

/-- HOST_SET_SPRFLAGS (R246). -/
def execHostSetSprflags (z o : Bool) (s : State) : Out :=
  .next { s with spriteZeroHit := z, spriteOverflow := o }

/-- HOST_POKE (R247): the byte the named port answers becomes `b`; the other view keeps its bytes, the
ports being independent (20_memory.md R52; log 4). -/
def execHostPoke (view : Port) (a : Addr) (b : Byte) (s : State) : Out := .next (s.pokeByte view a b)

/-- HOST_OBSERVE (R248): "the move changes no state"; what it reads is `State.observe`. -/
def execHostObserve (s : State) : Out := .next s

/-! ## Reinitialisation (70_reset_and_hazards.md R260, R261) -/

/-- A listed cell is a cell of the frame buffer and holds three bytes (R261). -/
def cellAdmitted (c : RawCell) : Bool :=
  decide (c.row < 224) && decide (c.col < 256) && decide (c.r < 256) && decide (c.g < 256) && decide (c.b < 256)

/-- The admitted initial states (R261). `stage` and the flags are of their types already. -/
def admitted (S0 : InitImage) : Bool :=
  decide (S0.dot ≤ 340) && decide (S0.scanline ≤ 261) && decide (S0.v < 2 ^ 15)
    && decide (S0.slo < 2 ^ 16) && decide (S0.shi < 2 ^ 16)
    && decide (S0.alo < 2 ^ 8) && decide (S0.ahi < 2 ^ 8)
    && decide (S0.ntLatch < 2 ^ 8) && decide (S0.atLatch < 2 ^ 8)
    && decide (S0.ptLoLatch < 2 ^ 8) && decide (S0.ptHiLatch < 2 ^ 8)
    && decide (S0.ptBase < 2 ^ 14) && decide (S0.frameParity ≤ 1) && S0.fb.all cellAdmitted

/-- The frame buffer that a list of cells writes. -/
def loadCells : List RawCell → FrameBuffer
  | [] => []
  | c :: rest => putCell (fbPos c.row c.col) ⟨BitVec.ofNat 8 c.r, BitVec.ofNat 8 c.g, BitVec.ofNat 8 c.b⟩ (loadCells rest)

/-- `S <- S0`: the whole tuple of 10_state.md R20 is replaced; the snapshot and the memory contents "are
host state and are not part of S0" (R260). -/
def State.load (s : State) (S0 : InitImage) : State :=
  { s with
    dot := S0.dot
    scanline := S0.scanline
    v := BitVec.ofNat 15 S0.v
    slo := BitVec.ofNat 16 S0.slo
    shi := BitVec.ofNat 16 S0.shi
    alo := BitVec.ofNat 8 S0.alo
    ahi := BitVec.ofNat 8 S0.ahi
    ntLatch := BitVec.ofNat 8 S0.ntLatch
    atLatch := BitVec.ofNat 8 S0.atLatch
    ptLoLatch := BitVec.ofNat 8 S0.ptLoLatch
    ptHiLatch := BitVec.ofNat 8 S0.ptHiLatch
    ptBase := BitVec.ofNat 14 S0.ptBase
    stage := S0.stage
    idle := S0.idle
    cpVis := S0.cpVis
    cpPre := S0.cpPre
    vblank := S0.vblank
    irq := S0.irq
    spriteZeroHit := S0.spriteZeroHit
    spriteOverflow := S0.spriteOverflow
    frameParity := BitVec.ofNat 1 S0.frameParity
    fb := loadCells S0.fb }

/-- HOST_REINIT (R260): any state R261 does not admit is refused, `Refusal.code` 3 (60_exceptions.md
R232). -/
def execHostReinit (S0 : InitImage) (s : State) : Out :=
  if admitted S0 then .next (s.load S0) else .refused .initOutOfRange

/-! ## What the host observes (10_state.md R39, 60_exceptions.md R248) -/

/-- The block's outputs between two ticks. -/
structure Observation where
  vblank : Bool
  irq : Bool
  vblankEdge : Bool
  memoryEvents : List Event
  fb : FrameBuffer
  deriving DecidableEq, Repr

/-- A memory event: a read or the status write. -/
def Event.isMemory : Event → Bool
  | .read _ _ _ => true
  | .write _ _ _ => true
  | .vblankEdge => false
  | .pixel _ _ _ => false

/-- What HOST_OBSERVE reads. -/
def State.observe (s : State) : Observation where
  vblank := s.vblank
  irq := s.irq
  vblankEdge := s.vblankEdge
  memoryEvents := s.events.filter Event.isMemory
  fb := s.fb

/-- The colour a host reads from a cell: its value, or, where it holds none, a draw of any value (D41;
`draw` numbers the draws). -/
def State.readCell (s : State) (row col draw : Nat) : RGB := (s.fbCell row col).getD (Config.unwrittenCell draw)

/-! ## The next move -/

/-- The instruction the next step runs, and the state it runs it in: the oldest pending host move, or,
with none pending, the driver's call of `advance()` (log 7). -/
def State.fetchMove (s : State) : Instr × State :=
  match s.pending with
  | [] => (.advance, s)
  | i :: rest => (i, { s with pending := rest })

/-- A script loaded from outside: its moves wait in order (R239; 30_encoding.md R91). -/
def State.loadScript (s : State) (text : Text) : Except DecodeError State :=
  match decodeScript text with
  | .error e => .error e
  | .ok ls =>
    match expandScript s.scanline s.dot ls with
    | .error e => .error e
    | .ok moves => .ok { s with pending := moves }

/-! ## Standing at a selector word -/

/-- The state with its counters at a selector word's coordinates, no move pending. -/
def State.atSelector (s : State) (sel : Sel) : State :=
  { s with scanline := sel.scanlineOf, dot := sel.dotOf, pending := [] }

/-- Rendering enabled, VBlank over, and no fetch due in the next tick. -/
def State.gateOpen (s : State) : State :=
  { s with vblank := false, idle := 1, ext := { s.ext with showSpr := true } }

/-- What else the next tick needs in order to issue a row at the coordinates it stands at (log 15). -/
def State.prepareFor (s : State) (i : Instr) : State :=
  match i with
  | .irqRaise => { s with ext := { s.ext with irqEnable := true } }
  | .fetchStall257 | .incFineY | .copyH | .cpReset => s.gateOpen
  | .copyV => { s.gateOpen with dot := if verticalCopy s.scanline s.dot then s.dot else 280 }
  | _ => s

end Sys2Proof.Machine
end

