-- ==== Sys2Proof/Machine/Dispatch.lean ====
section
/-! DEFINITION. The meaning of each instruction: one arm for each row of spec/opcode_table.json. -/

namespace Sys2Proof.Machine

def exec (i : Instr) (s : State) : Host.Outcome State Fault Refusal :=
  match i with
  | .tickMask => Sys2Proof.Machine.execTickMask s
  | .snapshot => Sys2Proof.Machine.execSnapshot s
  | .vblSet => Sys2Proof.Machine.execVblSet s
  | .irqRaise => Sys2Proof.Machine.execIrqRaise s
  | .vblClear => Sys2Proof.Machine.execVblClear s
  | .statusWrite => Sys2Proof.Machine.execStatusWrite s
  | .srReload => Sys2Proof.Machine.execSrReload s
  | .atRecompute => Sys2Proof.Machine.execAtRecompute s
  | .fetchStall257 => Sys2Proof.Machine.execFetchStall257 s
  | .fetchIdle => Sys2Proof.Machine.execFetchIdle s
  | .fetchNtDummy => Sys2Proof.Machine.execFetchNtDummy s
  | .fetchNt => Sys2Proof.Machine.execFetchNt s
  | .fetchAt => Sys2Proof.Machine.execFetchAt s
  | .fetchPtlo => Sys2Proof.Machine.execFetchPtlo s
  | .fetchPthiVis => Sys2Proof.Machine.execFetchPthiVis s
  | .fetchPthiPre => Sys2Proof.Machine.execFetchPthiPre s
  | .incFineY => Sys2Proof.Machine.execIncFineY s
  | .copyH => Sys2Proof.Machine.execCopyH s
  | .cpReset => Sys2Proof.Machine.execCpReset s
  | .copyV => Sys2Proof.Machine.execCopyV s
  | .incCoarseXVis => Sys2Proof.Machine.execIncCoarseXVis s
  | .incCoarseXPre => Sys2Proof.Machine.execIncCoarseXPre s
  | .srShift => Sys2Proof.Machine.execSrShift s
  | .pixelBg => Sys2Proof.Machine.execPixelBg s
  | .pixelForcedV => Sys2Proof.Machine.execPixelForcedV s
  | .pixelForcedDefault => Sys2Proof.Machine.execPixelForcedDefault s
  | .pixelEmit => Sys2Proof.Machine.execPixelEmit s
  | .counterAdvance => Sys2Proof.Machine.execCounterAdvance s
  | .parityToggle => Sys2Proof.Machine.execParityToggle s
  | .advance => Sys2Proof.Machine.execAdvance s
  | .hostSetCtrl a b => Sys2Proof.Machine.execHostSetCtrl a b s
  | .hostSetMask a b => Sys2Proof.Machine.execHostSetMask a b s
  | .hostSetT x => Sys2Proof.Machine.execHostSetT x s
  | .hostSetFinex x => Sys2Proof.Machine.execHostSetFinex x s
  | .hostSetIdle n => Sys2Proof.Machine.execHostSetIdle n s
  | .hostClrIrq => Sys2Proof.Machine.execHostClrIrq s
  | .hostSetSprflags z o => Sys2Proof.Machine.execHostSetSprflags z o s
  | .hostPoke p a b => Sys2Proof.Machine.execHostPoke p a b s
  | .hostObserve => Sys2Proof.Machine.execHostObserve s
  | .hostReinit S0 => Sys2Proof.Machine.execHostReinit S0 s

end Sys2Proof.Machine
end

