-- ==== Sys2Proof/Machine/Step.lean ====
section
/-! DEFINITION. One step: the next host move, or the driver's next tick; and where the host's table words go. -/

namespace Sys2Proof.Machine

/-- One step runs the oldest pending host move, or with none pending one tick. A micro-operation among
the pending moves is refused: the host "cannot act inside a tick" (60_exceptions.md R249). -/
def step (s : State) : Host.Outcome State Fault Refusal :=
  if s.fetchMove.1.isHostMove then exec s.fetchMove.1 s.fetchMove.2 else .refused .notAHostMove

/-- `s` standing at the coordinates of a table word, with what the row it names needs, so that the next
step is the tick that issues that row (log 15). -/
def State.withFetchWord (s : State) (nbits w : Nat) : State :=
  match decodeTableWord nbits w with
  | none => s.atSelector (BitVec.ofNat 18 w)
  | some i => (s.atSelector (BitVec.ofNat 18 w)).prepareFor i

end Sys2Proof.Machine
end

