-- ==== Sys2Proof/Safety.lean ====
section
/-! DEFINITION. What a claim about runs is stated in: runs of ticks and their event log (70_reset_and_hazards.md R264), the
invariants of 10_state.md R38, the boot requirements of R262, and the tick spelled over `exec`. -/

namespace Sys2Proof.Machine

/-! ## Runs -/

/-- `n` calls of `advance()`, up to the first fault. -/
def ticks : Nat → State → Out
  | 0, s => .next s
  | n + 1, s => andThen (exec .advance s) (ticks n)

/-- The event log of those calls, one list for each tick that completed (R264). -/
def eventLog : Nat → State → List (List Event)
  | 0, _ => []
  | n + 1, s =>
    match exec .advance s with
    | .next t => t.events :: eventLog n t
    | .fault _ => []
    | .refused _ => []

/-- A read of a fetch stage: its address lies below the palette (20_memory.md R56). -/
def isFetchRead : Event → Bool
  | .read _ a _ => a.toNat < 0x3000
  | .write _ _ _ => false
  | .vblankEdge => false
  | .pixel _ _ _ => false

/-- The outcome is a next state. -/
def completes : Out → Bool
  | .next _ => true
  | .fault _ => false
  | .refused _ => false

/-! ## The tick over `exec` -/

/-- Instructions in order, each run by `exec`. -/
def execOps : List Instr → State → Out
  | [], s => .next s
  | i :: rest, s => andThen (exec i s) (execOps rest)

/-- Steps in order, each running by `exec` what the map of 30_encoding.md R88 issues. -/
def execSteps (sl d : Nat) : List TickStep → State → Out
  | [], s => .next s
  | st :: rest, s => andThen (execOps (issued st (s.tickCtx sl d)) s) (execSteps sl d rest)

/-! ## Invariants (10_state.md R38) -/

/-- The counters are those of a frame (R21, R22, R38). -/
def State.countersOk (s : State) : Prop := s.dot ≤ 340 ∧ s.scanline ≤ 261

/-- Counters in range, and the memories and the frame buffer in canonical form. -/
def State.Inv (s : State) : Prop :=
  s.countersOk ∧ Memory.wf s.gen = true ∧ Memory.wf s.raw = true ∧ FrameBuffer.wf s.fb = true

/-- `alo` and `ahi` are 0x00 or 0xFF (R25, R38). -/
def State.attrReplicated (s : State) : Prop := (s.alo = 0x00#8 ∨ s.alo = 0xFF#8) ∧ (s.ahi = 0x00#8 ∨ s.ahi = 0xFF#8)

/-- The counters stand after tick (241, 1) and not after tick (261, 1): at (241, 2) up to (261, 1)
(45_vblank.md R215). -/
def inVblankSpan (sl d : Nat) : Bool := framePos 241 2 ≤ framePos sl d && framePos sl d ≤ framePos 261 1

/-- `vblank` is true exactly in that span (R38, R215). -/
def State.vblankInPhase (s : State) : Prop := s.vblank = inVblankSpan s.scanline s.dot

/-- The `vblank` flag after this tick's VBlank check (45_vblank.md R210, R212). -/
def State.vblankAfterCheck (s : State) : Bool :=
  if s.scanline = 241 ∧ s.dot = 1 then true else if s.scanline = 261 ∧ s.dot = 1 then false else s.vblank

/-- The rendering gate `G` of the tick that starts in `s` (40_scheduler.md R103). -/
def State.gateHolds (s : State) : Bool :=
  !s.vblankAfterCheck && s.ext.renderingEnabled && renderLine s.scanline

/-- The pixel gate of the tick that starts in `s` (40_scheduler.md R106). -/
def State.pixelGateHolds (s : State) : Bool := !s.vblankAfterCheck && writeWindow s.scanline s.dot

/-! ## Boot requirements (70_reset_and_hazards.md R262) -/

/-- Every read is answered on both ports, every palette byte is below 0x40, and the status write is
accepted. -/
def State.booted (s : State) : Prop :=
  (∀ p : Port, ∀ a : Addr, (s.readByte p a).isSome = true) ∧
  (∀ a : Addr, 0x3F00 ≤ a.toNat → ∀ b, s.readByte .generic a = some b → b.toNat < 0x40) ∧
  s.statusAccepts = true

/-! ## The counters alone (40_scheduler.md R107) -/

/-- The dot after a tick. -/
def nextDot (d : Nat) : Nat := if d = 340 then 0 else d + 1

/-- The scanline after a tick. -/
def nextScanline (sl d : Nat) : Nat := if d = 340 then (sl + 1) % 262 else sl

end Sys2Proof.Machine
end

