-- ==== Sys2Proof/Certificates/Slice0/Obligations.lean ====
section
/-! DEFINITION. The statements about this model, for the provers. Each docstring names the rule or the sentence of `spec/` that
the statement formalises; where a clause rests on a decision of the spec's own (D<n>) or on the model's log, it says so. A
statement of the form `exec i s = .next { s with … }` is a result, a completion and a frame in one: nothing but the named
fields changes. -/

open Sys2Proof Sys2Proof.Machine

/-! ## Reading instructions -/

/-- Script lines in the notation of 30_encoding.md R91 and selector words packed as R72 says decode to
what they stand for. The model's, not the spec's: that two SETs with a semicolon between them are one
line and one move (log 14); that a line of one SET leaves the row's other field absent (log 16); which
row a selector word names first that several share (log 15). -/
def Obligations.WrittenLinesDecode : Prop :=
  decode (ascii "SET E.irqEnable = 1") = .ok (.hostSetCtrl none (some true)) ∧
  decode (ascii "SET E.bgPatternSelect = 1; SET E.irqEnable = 0") = .ok (.hostSetCtrl (some true) (some false)) ∧
  decode (ascii "SET E.showBg = 1") = .ok (.hostSetMask (some true) none) ∧
  decode (ascii "SET E.t = 0x3BBE") = .ok (.hostSetT 0x3BBE) ∧
  decode (ascii "SET E.fineX = 3") = .ok (.hostSetFinex 3) ∧
  decode (ascii "POKE gen 0x3F00, 0x0F") = .ok (.hostPoke .generic 0x3F00#14 0x0F#8) ∧
  decode (ascii "IDLE 2") = .ok (.hostSetIdle 2) ∧
  decode (ascii "CLRIRQ") = .ok .hostClrIrq ∧
  decode (ascii "SPRFLAGS 1 0") = .ok (.hostSetSprflags true false) ∧
  decode (ascii "TICK 1") = .ok .advance ∧
  decode (ascii "INIT scanline=7, dot=0, v=0x7000") =
    .ok (.hostReinit { InitImage.refInit with scanline := 7, v := 0x7000 }) ∧
  decodeSelector 0x1e201#18 = [.vblSet, .irqRaise, .advance] ∧
  decodeSelector 0x20a01#18 = [.vblClear, .statusWrite, .copyV, .fetchPthiPre, .advance] ∧
  decodeSelector 0x00101#18 = [.fetchStall257, .copyH, .cpReset, .advance] ∧
  decodeTableWord 24 0x20b54 = some .parityToggle ∧
  decodeTableWord 24 0x20b55 = none

/-- The written form of 30_encoding.md R91 loses nothing: the line the encoder writes for an instruction
decodes to it, for every operand. How values, a line of two SETs, a micro-operation and HOST_OBSERVE are
written, and that a reinitialisation that lists frame-buffer cells has no line, is the model's (log 14);
so is an operand that a line leaves absent (log 16). -/
def Obligations.EncodedLineDecodesBack : Prop :=
  ∀ i : Instr, i.scriptable = true → decode (encode i) = .ok i

/-- 30_encoding.md R72, R88: what a step issues is a micro-operation whose match/mask pair holds at the
tick's selector word and whose condition holds. -/
def Obligations.IssuedRowsHoldPairAndSelect : Prop :=
  ∀ (st : TickStep) (c : TickCtx) (i : Instr), c.scanline ≤ 261 → c.dot ≤ 340 → i ∈ issued st c →
    i.pairHolds (Sel.pack c.scanline c.dot) = true ∧ i.selected c = true ∧ i.isHostMove = false

/-- 41_address_pathway.md R127: the first of the chain, and no other; COPY_H with CP_RESET. The order is the
spec's own decision D7, that a checkpoint fires where the dot equals it D6. -/
def Obligations.AddressStepIssuesFirstOfChain : Prop :=
  ∀ c : TickCtx,
    (c.gate = false → issued .address c = []) ∧
    (c.gate = true → issued .address c =
      if c.dot = 256 then [.incFineY]
      else if c.dot = 257 then [.copyH, .cpReset]
      else if c.scanline = 261 ∧ 280 ≤ c.dot ∧ c.dot ≤ 304 then [.copyV]
      else if c.dot = c.cpVis then [.incCoarseXVis]
      else if c.dot = c.cpPre then [.incCoarseXPre]
      else [])

/-- 42_fetch_pipeline.md, opening text and R140-R149: "Each tick issues exactly one of the
micro-operations", under `G`; none without it. The stall whatever `idle` holds is decision D9. -/
def Obligations.FetchStepIssuesOneUnderGate : Prop :=
  ∀ c : TickCtx,
    (c.gate = false → issued .fetch c = []) ∧
    (c.gate = true → issued .fetch c =
      if c.dot = 257 then [.fetchStall257]
      else if 0 < c.idle then [.fetchIdle]
      else if (1 ≤ c.dot ∧ c.dot ≤ 256) ∨ (321 ≤ c.dot ∧ c.dot ≤ 336) then
        match c.stage with
        | .NT => [.fetchNt]
        | .AT => [.fetchAt]
        | .PTLO => [.fetchPtlo]
        | .PTHI => if c.scanline = 261 then [.fetchPthiPre] else [.fetchPthiVis]
      else [.fetchNtDummy])

/-- 45_vblank.md R214 with R88: step 3 issues VBL_SET (and IRQ_RAISE, if the enable bit is set) exactly
at (241, 1), VBL_CLEAR and STATUS_WRITE exactly at (261, 1), whatever the enables are. -/
def Obligations.VblankCheckIssuesAtTwoTicks : Prop :=
  ∀ c : TickCtx, issued .vblankCheck c =
    if c.scanline = 241 ∧ c.dot = 1 then (if c.e.irqEnable then [.vblSet, .irqRaise] else [.vblSet])
    else if c.scanline = 261 ∧ c.dot = 1 then [.vblClear, .statusWrite]
    else []

/-- 44_pixel_renderer.md R190 with 40_scheduler.md R106: under the pixel gate exactly one address row,
the first branch that holds, followed by PIXEL_EMIT. That the step needs no `R` is the spec's own decision
D4, that VBlank stops it D29, the comparison with `v & 0x3FFF` 90_conflicts.md C1. -/
def Obligations.PixelStepIssuesOneRowThenEmit : Prop :=
  ∀ c : TickCtx, issued .pixel c =
    if c.vblank = false ∧ 8 ≤ c.scanline ∧ c.scanline ≤ 231 ∧ 1 ≤ c.dot ∧ c.dot ≤ 256 then
      if c.e.showBg then [.pixelBg, .pixelEmit]
      else if 0x3F00 ≤ (c.v &&& 0x3FFF#15).toNat then [.pixelForcedV, .pixelEmit]
      else [.pixelForcedDefault, .pixelEmit]
    else []

/-! ## The step -/

/-- The step runs the oldest pending host move, or with none pending the driver's `advance()`: the host's
moves come between ticks (60_exceptions.md R239), and that they wait as a queue is the model's choice
(log 7). The third clause, that a micro-operation among the pending moves is refused, is the model's
choice too (log 8): R249 says that the host "cannot act inside a tick" and names no refusal. -/
def Obligations.StepRunsNextMove : Prop :=
  (∀ s : State, s.pending = [] → step s = exec .advance s) ∧
  (∀ (s : State) (i : Instr) (rest : List Instr), s.pending = i :: rest → i.isHostMove = true →
    step s = exec i { s with pending := rest }) ∧
  (∀ (s : State) (i : Instr) (rest : List Instr), s.pending = i :: rest → i.isHostMove = false →
    step s = .refused .notAHostMove)

/-- 40_scheduler.md R100 with 30_encoding.md R88: one call of `advance()` runs, in the order of the
steps, `exec` of exactly the micro-operations each step's conditions select on the state as the steps
before left it; a fault keeps the state before the tick (60_exceptions.md R231; log 11). The order of the
dispatch is the spec's own decision D3; that a step reads its conditions once is the model's reading
(log 13), and that the state holds the tick's own events its choice (log 10). -/
def Obligations.TickRunsExecOfIssuedMicroOps : Prop :=
  ∀ s : State, exec .advance s =
    keepPre s (execSteps s.scanline s.dot
      [.mask, .sample, .vblankCheck, .reload, .fetch, .address, .shift, .pixel, .counter] { s with events := [] })

/-- A line loaded from outside is the next move: the bytes of a host move's line, loaded as a script,
are decoded, and the next step is `exec` of that move. The lines are those of 30_encoding.md R91 where it
gives one; HOST_OBSERVE's line, a line of two SETs and the encoder's spelling are the model's choice
(log 14), an operand that a line leaves absent its reading (log 16), and loading a script as the pending
moves its choice (log 7). -/
def Obligations.LoadedLineIsTheNextMove : Prop :=
  ∀ (s : State) (i : Instr), i.scriptable = true → i.isHostMove = true →
    s.loadScript (encode i) = .ok { s with pending := [i] } ∧
    step { s with pending := [i] } = exec i { s with pending := [] }

/-! ## Invariants -/

/-- 10_state.md R38, 40_scheduler.md R111: counters in range, memories and frame buffer canonical:
every step keeps it, in every state that has it. The canonical forms are the model's own. -/
def Obligations.EveryStepKeepsCountersAndCells : Prop :=
  ∀ s t : State, s.Inv → step s = .next t → t.Inv

/-- The reset state meets the three invariants. Its values are REF_INIT, the spec's own choice (log 1); that
no memory byte is listed is the model's (log 3). -/
def Obligations.ResetMeetsTheInvariants : Prop :=
  State.reset.Inv ∧ State.reset.attrReplicated ∧ State.reset.vblankInPhase

/-- 10_state.md R25, R38: a tick keeps `alo` and `ahi` at 0x00 or 0xFF. -/
def Obligations.TickKeepsAttributeReplicas : Prop :=
  ∀ s t : State, s.attrReplicated → exec .advance s = .next t → t.attrReplicated

/-- 45_vblank.md R215, 10_state.md R38: if `vblank` is true exactly in the half-open span from (241, 1) to
(261, 1), it is so after the tick too. -/
def Obligations.TickKeepsVblankPhase : Prop :=
  ∀ s t : State, s.countersOk → s.vblankInPhase → exec .advance s = .next t → t.vblankInPhase

/-! ## Scheduler -/

/-- TICK_MASK (R101; D1), SNAPSHOT (R102) and PARITY_TOGGLE (R108; D21). That the sample has a field of its
own is the model's choice (log 9), and so is running a micro-operation by itself, here and below
(log 8). -/
def Obligations.MaskSampleParityResults : Prop :=
  ∀ s : State,
    exec .tickMask s = .next { s with v := s.v &&& 0x3FFF#15 } ∧
    exec .snapshot s = .next { s with snap := s.ext } ∧
    exec .parityToggle s = .next { s with frameParity := s.frameParity ^^^ 1#1 }

/-- COUNTER_ADVANCE (R107), by itself and in every tick that completes, whatever the enables, VBlank and
idle counter are. -/
def Obligations.CountersAdvanceEveryTick : Prop :=
  (∀ s : State, exec .counterAdvance s =
    .next { s with
      dot := if s.dot = 340 then 0 else s.dot + 1
      scanline := if s.dot = 340 then (s.scanline + 1) % 262 else s.scanline }) ∧
  (∀ s t : State, exec .advance s = .next t →
    t.dot = (if s.dot = 340 then 0 else s.dot + 1) ∧
    t.scanline = (if s.dot = 340 then (s.scanline + 1) % 262 else s.scanline))

/-- 10_state.md R34, 40_scheduler.md R108, R112: the parity bit toggles in the tick (261, 340) and in no
other (the spec's own decision D21; no skipped tick, D37), and a tick that starts with the other parity
ends in the same state but for that bit. -/
def Obligations.ParityTogglesAndHasNoEffect : Prop :=
  ∀ s t : State, exec .advance s = .next t →
    t.frameParity = (if s.scanline = 261 ∧ s.dot = 340 then s.frameParity ^^^ 1#1 else s.frameParity) ∧
    exec .advance { s with frameParity := s.frameParity ^^^ 1#1 } =
      .next { t with frameParity := t.frameParity ^^^ 1#1 }

/-- 40_scheduler.md R103 (D33): in a tick without `G`, the mask parameter off, nothing the dispatch
writes changes. -/
def Obligations.ClosedGateFreezesThePipeline : Prop :=
  ∀ s t : State, s.gateHolds = false → s.params.liveMask = false → exec .advance s = .next t →
    t.v = s.v ∧ t.slo = s.slo ∧ t.shi = s.shi ∧ t.alo = s.alo ∧ t.ahi = s.ahi ∧
    t.ntLatch = s.ntLatch ∧ t.atLatch = s.atLatch ∧ t.ptLoLatch = s.ptLoLatch ∧ t.ptHiLatch = s.ptHiLatch ∧
    t.ptBase = s.ptBase ∧ t.stage = s.stage ∧ t.idle = s.idle ∧ t.cpVis = s.cpVis ∧ t.cpPre = s.cpPre

/-- 40_scheduler.md R105: with VBlank active, and at neither (241, 1) nor (261, 1), a tick completes: it
samples E and moves the counters and the parity (R108; D21), and nothing else (the mask parameter off).
That the pixel step is skipped too is the spec's own decision D29. The fields for the sample and for the
events are the model's (log 9, log 10). -/
def Obligations.VblankTickMovesOnlyTheCounters : Prop :=
  ∀ s : State, s.vblank = true → ¬(s.scanline = 241 ∧ s.dot = 1) → ¬(s.scanline = 261 ∧ s.dot = 1) →
    s.params.liveMask = false →
    exec .advance s = .next { s with
      snap := s.ext
      events := []
      dot := if s.dot = 340 then 0 else s.dot + 1
      scanline := if s.dot = 340 then (s.scanline + 1) % 262 else s.scanline
      frameParity := if s.scanline = 261 ∧ s.dot = 340 then s.frameParity ^^^ 1#1 else s.frameParity }

/-- 70_reset_and_hazards.md R277, 40_scheduler.md R101: with the mask parameter on, the tick at dot 256
leaves coarse Y as it was, so the overflow path of INC_FINE_Y is never taken (derived; the parameter is
decision D1, bit 11 D8). -/
def Obligations.LiveMaskStopsCoarseY : Prop :=
  ∀ s t : State, s.params.liveMask = true → s.dot = 256 → exec .advance s = .next t →
    coarseY t.v = coarseY s.v ∧ ntV t.v = ntV s.v

/-! ## VBlank and the interrupt request -/

/-- VBL_SET with its pulse (R210; D17), IRQ_RAISE (R211; D20), VBL_CLEAR (R212). The fields for the sample
and for the events are the model's (log 9, log 10). -/
def Obligations.FlagMicroOpResults : Prop :=
  ∀ s : State,
    exec .vblSet s = .next { s with vblank := true, events := s.events ++ [.vblankEdge] } ∧
    exec .irqRaise s = .next { s with irq := s.irq || s.snap.irqEnable } ∧
    exec .vblClear s = .next { s with vblank := false, spriteZeroHit := false, spriteOverflow := false }

/-- STATUS_WRITE (R213; D18): the byte 0x00 at STATUS_ADDR with PPU_TOKEN, one event; `MemoryContract` if
the write is not accepted. That the status location is a byte of its own, and acceptance a field, is the
model's choice (log 5). -/
def Obligations.StatusWriteResultOrFault : Prop :=
  ∀ s : State,
    (s.statusAccepts = true → exec .statusWrite s =
      .next { s with
        statusByte := 0x00#8
        events := s.events ++ [.write s.params.statusAddr 0x00#8 s.params.token] }) ∧
    (s.statusAccepts = false → exec .statusWrite s =
      .fault (.memoryContract s.scanline s.dot (.write s.params.statusAddr 0x00#8 s.params.token) s.events s))

/-- 10_state.md R31, R33, 45_vblank.md R210, R212, R214: what a tick does to the three flags and when it
emits the pulse (D17). -/
def Obligations.TickSetsAndClearsFlagsAtTwoTicks : Prop :=
  ∀ s t : State, exec .advance s = .next t →
    t.vblank = (if s.scanline = 241 ∧ s.dot = 1 then true
      else if s.scanline = 261 ∧ s.dot = 1 then false else s.vblank) ∧
    t.spriteZeroHit = (if s.scanline = 261 ∧ s.dot = 1 then false else s.spriteZeroHit) ∧
    t.spriteOverflow = (if s.scanline = 261 ∧ s.dot = 1 then false else s.spriteOverflow) ∧
    (Event.vblankEdge ∈ t.events ↔ s.scanline = 241 ∧ s.dot = 1)

/-- 70_reset_and_hazards.md R270, 45_vblank.md R211: the request is raised at (241, 1) if and only if the
enable bit is set at that tick. That there is an edge only when it was false before, and that a raised
request stays raised through every tick, is 60_exceptions.md R234 with the spec's own decision D20
(log 18). -/
def Obligations.InterruptRaisedIffEnabledAtThatTick : Prop :=
  ∀ s t : State, exec .advance s = .next t →
    (t.irq = true ↔ s.irq = true ∨ (s.scanline = 241 ∧ s.dot = 1 ∧ s.ext.irqEnable = true)) ∧
    (irqEdge s t = true ↔ s.irq = false ∧ s.scanline = 241 ∧ s.dot = 1 ∧ s.ext.irqEnable = true)

/-- 60_exceptions.md R235 (derived): the tick (241, 1) completes in every state, with no memory event. The
request stays if it was there (R234; D20), and the pulse is decision D17's (45_vblank.md R210). -/
def Obligations.InterruptTickNeverFaults : Prop :=
  ∀ s : State, s.scanline = 241 → s.dot = 1 →
    ∃ t, exec .advance s = .next t ∧ t.vblank = true ∧ t.irq = (s.irq || s.ext.irqEnable) ∧
      t.events = [.vblankEdge] ∧ t.scanline = 241 ∧ t.dot = 2

/-! ## Address pathway -/

/-- INC_FINE_Y (R120), field by field; the toggled bit is bit 11 (D8). -/
def Obligations.FineYIncrementResult : Prop :=
  ∀ s : State, ∃ w : VReg, exec .incFineY s = .next { s with v := w } ∧
    coarseX w = coarseX s.v ∧ ntH w = ntH s.v ∧
    (fineY s.v ≠ 7#3 → fineY w = fineY s.v + 1#3 ∧ coarseY w = coarseY s.v ∧ ntV w = ntV s.v) ∧
    (fineY s.v = 7#3 → fineY w = 0#3 ∧
      (coarseY s.v = 29#5 → coarseY w = 0#5 ∧ ntV w = !ntV s.v) ∧
      (coarseY s.v = 31#5 → coarseY w = 0#5 ∧ ntV w = ntV s.v) ∧
      (coarseY s.v ≠ 29#5 → coarseY s.v ≠ 31#5 → coarseY w = coarseY s.v + 1#5 ∧ ntV w = ntV s.v))

/-- INC_COARSE_X_VIS (R125) and INC_COARSE_X_PRE (R126) with R124, field by field; the toggled bit is
bit 10 (D8), the checkpoint moves by 8 (D6). -/
def Obligations.CoarseXIncrementResults : Prop :=
  ∀ s : State, ∃ w : VReg,
    exec .incCoarseXVis s = .next { s with v := w, cpVis := s.cpVis + 8 } ∧
    exec .incCoarseXPre s = .next { s with v := w, cpPre := s.cpPre + 8 } ∧
    coarseY w = coarseY s.v ∧ ntV w = ntV s.v ∧ fineY w = fineY s.v ∧
    (coarseX s.v = 31#5 → coarseX w = 0#5 ∧ ntH w = !ntH s.v) ∧
    (coarseX s.v ≠ 31#5 → coarseX w = coarseX s.v + 1#5 ∧ ntH w = ntH s.v)

/-- COPY_H (R121), COPY_V (R122), field by field from the sampled `E.t`, and CP_RESET (R123; D6). Which
nametable bit is the horizontal one is decision D8. -/
def Obligations.CopyResults : Prop :=
  ∀ s : State, ∃ x y : VReg,
    exec .copyH s = .next { s with v := x } ∧
    coarseX x = coarseX s.snap.t ∧ ntH x = ntH s.snap.t ∧ coarseY x = coarseY s.v ∧ ntV x = ntV s.v ∧ fineY x = fineY s.v ∧
    exec .copyV s = .next { s with v := y } ∧
    coarseY y = coarseY s.snap.t ∧ ntV y = ntV s.snap.t ∧ fineY y = fineY s.snap.t ∧ coarseX y = coarseX s.v ∧ ntH y = ntH s.v ∧
    exec .cpReset s = .next { s with cpVis := 8, cpPre := 328 }

/-- 41_address_pathway.md R121: "Horizontal-bits copy at dot 257 is idempotent absent an intervening
temporary-register change"; that the vertical one (R122) is so too is inferred. -/
def Obligations.CopiesAreIdempotent : Prop :=
  ∀ s : State,
    andThen (exec .copyH s) (exec .copyH) = exec .copyH s ∧ andThen (exec .copyV s) (exec .copyV) = exec .copyV s

/-! ## Fetch pipeline -/

/-- FETCH_IDLE (R140) and FETCH_STALL_257 (R141; D9). -/
def Obligations.IdleAndStallResults : Prop :=
  ∀ s : State,
    exec .fetchIdle s = .next { s with idle := s.idle - 1 } ∧
    exec .fetchStall257 s = .next { s with idle := 63 }

/-- FETCH_NT (R144), FETCH_AT (R145), FETCH_PTLO (R146), FETCH_PTHI_VIS (R147; D11), FETCH_PTHI_PRE (R148)
and FETCH_NT_DUMMY (R149; D10) with a read that is answered: which port and address, which latch, the
next stage, one idle tick (R143; D9), one event. Which stages use the raw port is open (R150; D12), and
`portOf` reads the parameter. -/
def Obligations.AnsweredFetchResults : Prop :=
  ∀ (s : State) (b : Byte),
    (s.readByte (s.portOf .NT) (ntAddr s.v) = some b →
      exec .fetchNt s = .next { s with
        ntLatch := b, stage := .AT, idle := 1, events := s.events ++ [.read (s.portOf .NT) (ntAddr s.v) b] } ∧
      exec .fetchNtDummy s = .next { s with
        ntLatch := b, idle := 1, events := s.events ++ [.read (s.portOf .NT) (ntAddr s.v) b] }) ∧
    (s.readByte (s.portOf .AT) (atAddr s.v) = some b →
      exec .fetchAt s = .next { s with
        atLatch := b, stage := .PTLO, idle := 1, events := s.events ++ [.read (s.portOf .AT) (atAddr s.v) b] }) ∧
    (s.readByte (s.portOf .PTLO) (ptAddr s.snap.bgPatternSelect s.ntLatch s.v) = some b →
      exec .fetchPtlo s = .next { s with
        ptBase := ptAddr s.snap.bgPatternSelect s.ntLatch s.v, ptLoLatch := b, stage := .PTHI, idle := 1
        events := s.events ++ [.read (s.portOf .PTLO) (ptAddr s.snap.bgPatternSelect s.ntLatch s.v) b] }) ∧
    (s.readByte (s.portOf .PTHI) (ptAddr s.snap.bgPatternSelect s.ntLatch s.v + 8#14) = some b →
      exec .fetchPthiVis s = .next { s with
        ptBase := ptAddr s.snap.bgPatternSelect s.ntLatch s.v, ptHiLatch := b, stage := .NT, idle := 1
        events := s.events ++ [.read (s.portOf .PTHI) (ptAddr s.snap.bgPatternSelect s.ntLatch s.v + 8#14) b] }) ∧
    (s.readByte (s.portOf .PTHI) (s.ptBase + 8#14) = some b →
      exec .fetchPthiPre s = .next { s with
        ptHiLatch := b, stage := .NT, idle := 1, events := s.events ++ [.read (s.portOf .PTHI) (s.ptBase + 8#14) b] })

/-- 20_memory.md R55, 60_exceptions.md R230: a fetch read that is not answered is `MemoryContract`, with the
tick, the port and the address. The state beside the record is the one the micro-operation ran in, since
it runs by itself here (log 8). That a read fails where the address is not listed is the model's
(log 3, log 20). -/
def Obligations.UnansweredFetchFaults : Prop :=
  ∀ s : State,
    (s.readByte (s.portOf .NT) (ntAddr s.v) = none →
      exec .fetchNt s =
        .fault (.memoryContract s.scanline s.dot (.read (s.portOf .NT) (ntAddr s.v)) s.events s) ∧
      exec .fetchNtDummy s =
        .fault (.memoryContract s.scanline s.dot (.read (s.portOf .NT) (ntAddr s.v)) s.events s)) ∧
    (s.readByte (s.portOf .AT) (atAddr s.v) = none →
      exec .fetchAt s =
        .fault (.memoryContract s.scanline s.dot (.read (s.portOf .AT) (atAddr s.v)) s.events s)) ∧
    (s.readByte (s.portOf .PTLO) (ptAddr s.snap.bgPatternSelect s.ntLatch s.v) = none →
      exec .fetchPtlo s =
        .fault (.memoryContract s.scanline s.dot
          (.read (s.portOf .PTLO) (ptAddr s.snap.bgPatternSelect s.ntLatch s.v)) s.events s)) ∧
    (s.readByte (s.portOf .PTHI) (ptAddr s.snap.bgPatternSelect s.ntLatch s.v + 8#14) = none →
      exec .fetchPthiVis s =
        .fault (.memoryContract s.scanline s.dot
          (.read (s.portOf .PTHI) (ptAddr s.snap.bgPatternSelect s.ntLatch s.v + 8#14)) s.events s)) ∧
    (s.readByte (s.portOf .PTHI) (s.ptBase + 8#14) = none →
      exec .fetchPthiPre s =
        .fault (.memoryContract s.scanline s.dot (.read (s.portOf .PTHI) (s.ptBase + 8#14)) s.events s))

/-- 42_fetch_pipeline.md R150, 00_scope.md R6: exactly two stages read the raw port, the others the
generic one, whichever pair the parameter is. -/
def Obligations.ExactlyTwoStagesReadTheRawPort : Prop :=
  ∀ s : State, ([Stage.NT, .AT, .PTLO, .PTHI].filter fun st => s.portOf st == .raw).length = 2

/-- 30_encoding.md R80, R81, R82, R83 and R85: the value of each address formula as a number. That the
pattern-high address is plain 8 more, the sum never carrying, is derived in 20_memory.md R58 (D36). -/
def Obligations.AddressesStayInTheirRanges : Prop :=
  ∀ (v : VReg) (sel : Bool) (nt : Byte) (index : BitVec 4),
    (ntAddr v).toNat = 0x2000 + v.toNat % 0x1000 ∧
    (atAddr v).toNat = 0x23C0 + 0x400 * (nametableSelect v).toNat + 8 * ((coarseY v).toNat / 4) + (coarseX v).toNat / 4 ∧
    (ptAddr sel nt v).toNat = 0x1000 * sel.toNat + 16 * nt.toNat + (fineY v).toNat ∧
    (ptHighAddr (ptAddr sel nt v)).toNat = (ptAddr sel nt v).toNat + 8 ∧
    (palAddr index).toNat = 0x3F00 + index.toNat

/-- 42_fetch_pipeline.md R141 with R140 (the schedule is derived there; D9): from the stall at dot 257 of a
rendered line, with rendering enabled, 64 ticks complete, read nothing, and reach dot 321 with the
counter at 0 and the stage and latches it had. That `cpVis` is 8 then is the reset of the checkpoints at
dot 257, 41_address_pathway.md R123, with the spec's own decision D6. -/
def Obligations.StallReachesThePrefetchWindow : Prop :=
  ∀ s : State, s.dot = 257 → renderLine s.scanline = true → s.vblank = false → s.ext.renderingEnabled = true →
    ∃ t, ticks 64 s = .next t ∧ t.dot = 321 ∧ t.scanline = s.scanline ∧ t.idle = 0 ∧ t.stage = s.stage ∧
      t.ntLatch = s.ntLatch ∧ t.atLatch = s.atLatch ∧ t.ptLoLatch = s.ptLoLatch ∧ t.ptHiLatch = s.ptHiLatch ∧
      t.cpVis = 8 ∧ (eventLog 64 s).flatten = []

/-- 41_address_pathway.md R128, 42_fetch_pipeline.md R151, first row (both derived): a visible line that
starts as a rendered line leaves the block, with rendering enabled, completes, issues 139 fetch reads,
leaves the block the same way, and leaves coarse X two past `E.t`'s (the copy at dot 257, the increments
at 328 and 336). The schedule rests on the spec's own decisions D6, D9 and D10. Fetch addresses lie
below 0x3000 (20_memory.md R56). That all 341 ticks complete from a state booted at the start is the
model's choice: an answered read is answered again (log 20). -/
def Obligations.RenderedLineRepeatsItsSchedule : Prop :=
  ∀ s : State, s.booted → s.dot = 0 → s.scanline ≤ 239 → s.vblank = false → s.ext.renderingEnabled = true →
    s.idle = 0 → s.stage = .NT → s.cpVis = 8 → s.cpPre = 344 →
    ∃ t, ticks 341 s = .next t ∧ t.dot = 0 ∧ t.scanline = s.scanline + 1 ∧ t.vblank = false ∧
      t.idle = 0 ∧ t.stage = .NT ∧ t.cpVis = 8 ∧ t.cpPre = 344 ∧ coarseX t.v = coarseX s.ext.t + 2#5 ∧
      (eventLog 341 s).flatten.countP isFetchRead = 139

/-- 42_fetch_pipeline.md R151, second row (derived): the pre-render line after a normal VBlank issues
138 fetch reads, and leaves the block as a rendered line does, with the checkpoints and coarse X of
41_address_pathway.md R128. The schedule rests on the spec's own decisions D6, D9 and D10. That all 341
ticks complete from a state booted at the start is the model's choice: the status write of (261, 1),
accepted at the start, is accepted at its tick and changes no byte a port answers (log 5), and an
answered read is answered again (log 20). -/
def Obligations.PreRenderLineRepeatsItsSchedule : Prop :=
  ∀ s : State, s.booted → s.dot = 0 → s.scanline = 261 → s.vblank = true → s.ext.renderingEnabled = true →
    s.idle = 0 → s.stage = .NT → s.cpVis = 8 → s.cpPre = 344 →
    ∃ t, ticks 341 s = .next t ∧ t.dot = 0 ∧ t.scanline = 0 ∧ t.vblank = false ∧
      t.idle = 0 ∧ t.stage = .NT ∧ t.cpVis = 8 ∧ t.cpPre = 344 ∧ coarseX t.v = coarseX s.ext.t + 2#5 ∧
      (eventLog 341 s).flatten.countP isFetchRead = 138

/-! ## Shift registers and mux -/

/-- 43_shift_mux.md R170: the shift moves each pattern register right by one bit and leaves everything else,
and a tick issues it exactly under `G` at the dots [2, 257] and [322, 337]. -/
def Obligations.ShiftMovesRightInItsWindows : Prop :=
  (∀ s : State, ∃ a b : Pattern,
    exec .srShift s = .next { s with slo := a, shi := b } ∧
    (∀ n, a.getLsbD n = s.slo.getLsbD (n + 1)) ∧ (∀ n, b.getLsbD n = s.shi.getLsbD (n + 1))) ∧
  (∀ c : TickCtx, issued .shift c =
    if c.gate = true ∧ ((2 ≤ c.dot ∧ c.dot ≤ 257) ∨ (322 ≤ c.dot ∧ c.dot ≤ 337)) then [.srShift] else [])

/-- SR_RELOAD (R172; D14), byte by byte, and the reload dots of R171 (D5): under `G` at `8k + 1` for k = 1..32,
329 and 337 a tick issues it with AT_RECOMPUTE, elsewhere neither. -/
def Obligations.ReloadLoadsHighBytesAtItsDots : Prop :=
  (∀ s : State, ∃ a b : Pattern,
    exec .srReload s = .next { s with slo := a, shi := b } ∧
    a.extractLsb' 8 8 = s.ptLoLatch ∧ a.extractLsb' 0 8 = s.slo.extractLsb' 0 8 ∧
    b.extractLsb' 8 8 = s.ptHiLatch ∧ b.extractLsb' 0 8 = s.shi.extractLsb' 0 8) ∧
  (∀ c : TickCtx,
    (c.gate = true ∧ ((∃ k, 1 ≤ k ∧ k ≤ 32 ∧ c.dot = 8 * k + 1) ∨ c.dot = 329 ∨ c.dot = 337) →
      issued .reload c = [.srReload, .atRecompute]) ∧
    (¬(c.gate = true ∧ ((∃ k, 1 ≤ k ∧ k ≤ 32 ∧ c.dot = 8 * k + 1) ∨ c.dot = 329 ∨ c.dot = 337)) →
      issued .reload c = []))

/-- AT_RECOMPUTE (R173, R84; D13): each register is the selected bit of the attribute byte in all eight
places. -/
def Obligations.AttributeRecomputeResult : Prop :=
  ∀ s : State, ∃ lo hi : Byte,
    exec .atRecompute s = .next { s with alo := lo, ahi := hi } ∧
    (∀ n, n < 8 → lo.getLsbD n = s.atLatch.getLsbD (4 * (s.v.getLsbD 5).toNat + 2 * (s.v.getLsbD 0).toNat)) ∧
    (∀ n, n < 8 → hi.getLsbD n = s.atLatch.getLsbD (4 * (s.v.getLsbD 5).toNat + 2 * (s.v.getLsbD 0).toNat + 1))

/-- 43_shift_mux.md R174: with replicated attribute registers the attribute half of the index is the same
for every fine X. -/
def Obligations.FineXDoesNotMoveTheAttributeBits : Prop :=
  ∀ (s : State) (f g : BitVec 3), s.attrReplicated →
    (muxIndex s.slo s.shi s.alo s.ahi f).extractLsb' 2 2 = (muxIndex s.slo s.shi s.alo s.ahi g).extractLsb' 2 2

/-! ## Pixel renderer -/

/-- PIXEL_BG (R191, R175, R85), PIXEL_FORCED_V (R192; 90_conflicts.md C1), PIXEL_FORCED_DEFAULT (R193): the
palette address. That it has a field of its own is the model's choice (log 9). -/
def Obligations.PixelAddressResults : Prop :=
  ∀ s : State, ∃ a b : Addr,
    exec .pixelBg s = .next { s with pa := a } ∧
    a.toNat = 0x3F00 + (s.slo.getLsbD s.snap.fineX.toNat).toNat + 2 * (s.shi.getLsbD s.snap.fineX.toNat).toNat +
      4 * (s.alo.getLsbD s.snap.fineX.toNat).toNat + 8 * (s.ahi.getLsbD s.snap.fineX.toNat).toNat ∧
    exec .pixelForcedV s = .next { s with pa := b } ∧ b.toNat = s.v.toNat % 0x4000 ∧
    exec .pixelForcedDefault s = .next { s with pa := 0x3F00#14 }

/-- PIXEL_EMIT (R194, R195; D15, D16, D35) at a tick whose pixel has a cell: the palette byte is read
through the generic port, its table entry written to row `s − 8`, column `d − 1`; a byte of 0x40 or
more and a read that is not answered fault, with the state the micro-operation ran in beside the record
(log 8). Elsewhere no tick issues it and the model refuses it (log 12). The palette address and the events
are fields of the model's own (log 9, log 10). -/
def Obligations.PixelEmitResults : Prop :=
  ∀ s : State,
    (writeWindow s.scanline s.dot = true →
      (∀ (b : Byte) (h : b.toNat < 64), s.readByte .generic s.pa = some b →
        exec .pixelEmit s = .next { s with
          fb := putCell ((s.scanline - 8) * 256 + (s.dot - 1)) (s.params.rgb[b.toNat]'h) s.fb
          events := s.events ++ [.read .generic s.pa b, .pixel (s.scanline - 8) (s.dot - 1) (s.params.rgb[b.toNat]'h)] }) ∧
      (∀ b : Byte, 64 ≤ b.toNat → s.readByte .generic s.pa = some b →
        exec .pixelEmit s =
          .fault (.paletteValueOutOfRange s.scanline s.dot s.pa b (s.events ++ [.read .generic s.pa b]) s)) ∧
      (s.readByte .generic s.pa = none →
        exec .pixelEmit s = .fault (.memoryContract s.scanline s.dot (.read .generic s.pa) s.events s))) ∧
    (writeWindow s.scanline s.dot = false → exec .pixelEmit s = .refused .noFrameBufferCell)

/-- 10_state.md R35, 20_memory.md R63, 44_pixel_renderer.md R195: a tick under the pixel gate gives the
cell (s − 8, d − 1) a value and changes no other; any other tick changes none. -/
def Obligations.TickWritesExactlyItsCell : Prop :=
  ∀ s t : State, exec .advance s = .next t →
    (s.pixelGateHolds = true →
      (t.fbCell (s.scanline - 8) (s.dot - 1)).isSome = true ∧
      ∀ row col, col < 256 → ¬(row = s.scanline - 8 ∧ col = s.dot - 1) → t.fbCell row col = s.fbCell row col) ∧
    (s.pixelGateHolds = false → t.fb = s.fb)

/-! ## Memory -/

/-- 20_memory.md R53, R54, 10_state.md R36: a tick changes no memory byte of either view, none of the
host's inputs, no parameter; the status location becomes 0x00 at (261, 1) and keeps its byte in every
other tick. The model's choice, not the spec's: that the status write of (261, 1) changes no byte that
a port answers, and that a tick keeps `statusAccepts` (log 5); that which reads are answered stays
(log 20); that the waiting moves are state and stay (log 7). -/
def Obligations.TickLeavesHostStateAlone : Prop :=
  ∀ s t : State, exec .advance s = .next t →
    (∀ (p : Port) (a : Addr), t.readByte p a = s.readByte p a) ∧
    t.ext = s.ext ∧ t.params = s.params ∧ t.statusAccepts = s.statusAccepts ∧ t.pending = s.pending ∧
    t.statusByte = (if s.scanline = 261 ∧ s.dot = 1 then 0x00#8 else s.statusByte)

/-- 20_memory.md R60: a tick's events in order: the pulse or the status write of the VBlank check, at
most one fetch read, at most one palette read through the generic port (D35) with its pixel. The pulse
(D17) and the pixel are no memory events of R60: that one list holds all is the model's (log 10). -/
def Obligations.TickEventsComeInOrder : Prop :=
  ∀ s t : State, exec .advance s = .next t →
    ∃ check fetch pixel : List Event, t.events = check ++ fetch ++ pixel ∧
      check = (if s.scanline = 241 ∧ s.dot = 1 then [.vblankEdge]
        else if s.scanline = 261 ∧ s.dot = 1 then [.write s.params.statusAddr 0x00#8 s.params.token] else []) ∧
      (fetch = [] ∨ ∃ p a b, s.readByte p a = some b ∧ fetch = [.read p a b]) ∧
      (pixel = [] ∨ ∃ a b color, s.readByte .generic a = some b ∧ 0x3F00 ≤ a.toNat ∧
        pixel = [.read .generic a b, .pixel (s.scanline - 8) (s.dot - 1) color])

/-! ## Faults -/

/-- 60_exceptions.md R230, R231: a tick never ends in a refusal, and when it faults, the record names its own tick, keeps the
state before it, and names a read that is not answered, a status write at (261, 1) that is not
accepted, or a palette byte of 0x40 or more that was read (D15, D26). That a tick is never refused is
inferred: R232 gives a refusal to a reinitialisation alone. -/
def Obligations.TickFaultsOnlyForTheListedCauses : Prop :=
  ∀ s : State,
    (∀ r : Refusal, exec .advance s ≠ .refused r) ∧
    (∀ f : Fault, exec .advance s = .fault f →
      f.pre = s ∧
      ((∃ p a ev, f = .memoryContract s.scanline s.dot (.read p a) ev s ∧ s.readByte p a = none) ∨
       (∃ ev, f = .memoryContract s.scanline s.dot (.write s.params.statusAddr 0x00#8 s.params.token) ev s ∧
          s.scanline = 261 ∧ s.dot = 1 ∧ s.statusAccepts = false) ∨
       (∃ a b ev, f = .paletteValueOutOfRange s.scanline s.dot a b ev s ∧ 0x3F00 ≤ a.toNat ∧
          s.readByte .generic a = some b ∧ 0x40 ≤ b.toNat)))

/-- 60_exceptions.md R235, R230, 45_vblank.md R213: at (261, 1) a status write that is not accepted ends the
tick before any fetch or pixel, and the record carries tick, address, byte and token (D18). That
acceptance is a field is the model's choice (log 5). -/
def Obligations.RejectedStatusWriteEndsTheTick : Prop :=
  ∀ s : State, s.scanline = 261 → s.dot = 1 → s.statusAccepts = false →
    exec .advance s = .fault (.memoryContract 261 1 (.write s.params.statusAddr 0x00#8 s.params.token) [] s)

/-- 70_reset_and_hazards.md R262, 60_exceptions.md R239: with every read answered, every palette byte
below 0x40 and the status write accepted (R239's duty; R262 does not list it), a tick completes and
leaves the machine so. The model's choice, not the spec's: that an accepted status write is accepted
again and changes no byte a port answers (log 5), and that an answered read is answered again
(log 20). -/
def Obligations.BootedTickCompletes : Prop :=
  ∀ s : State, s.booted → ∃ t, exec .advance s = .next t ∧ t.booted ∧
    t.dot = nextDot s.dot ∧ t.scanline = nextScanline s.scanline s.dot

/-! ## Frames -/

/-- 40_scheduler.md R111, R112: from any counters of a frame, 89342 ticks complete and bring them back,
and toggle the parity once (D21). That the machine stays booted, so that no later tick of the frame
faults, is the model's choice: an accepted status write is accepted again (log 5), an answered read is
answered again (log 20). -/
def Obligations.FrameOfTicksReturnsTheCounters : Prop :=
  ∀ s : State, s.booted → s.countersOk →
    ∃ t, ticks 89342 s = .next t ∧ t.dot = s.dot ∧ t.scanline = s.scanline ∧
      t.frameParity = s.frameParity ^^^ 1#1 ∧ t.booted

/-- 44_pixel_renderer.md R197: a frame that starts at (0, 0) with `vblank` false completes and leaves every
cell written. That the machine stays booted through it is the model's choice (log 5, log 20). -/
def Obligations.FrameDrawsEveryCell : Prop :=
  ∀ s : State, s.booted → s.dot = 0 → s.scanline = 0 → s.vblank = false →
    ∃ t, ticks 89342 s = .next t ∧ ∀ row col, row < 224 → col < 256 → (t.fbCell row col).isSome = true

/-- 45_vblank.md R215, 20_memory.md R53: over any 89342 ticks the pulse and the status write each come
exactly once. That the machine stays booted through them is the model's choice (log 5, log 20). -/
def Obligations.OnePulseAndOneStatusWritePerFrame : Prop :=
  ∀ s : State, s.booted → s.countersOk →
    (eventLog 89342 s).length = 89342 ∧
    (eventLog 89342 s).flatten.count .vblankEdge = 1 ∧
    (eventLog 89342 s).flatten.count (.write s.params.statusAddr 0x00#8 s.params.token) = 1

/-! ## Host moves -/

/-- HOST_SET_CTRL (R240), HOST_SET_MASK (R241), HOST_SET_T (R242), HOST_SET_FINEX (R243) and HOST_CLR_IRQ
(R245), with every operand named. -/
def Obligations.HostSetterResults : Prop :=
  ∀ (s : State) (b b' : Bool) (x : Nat),
    exec (.hostSetCtrl (some b) (some b')) s =
      .next { s with ext := { s.ext with bgPatternSelect := b, irqEnable := b' } } ∧
    exec (.hostSetMask (some b) (some b')) s = .next { s with ext := { s.ext with showBg := b, showSpr := b' } } ∧
    (∃ t : VReg, t.toNat = x % 2 ^ 15 ∧ exec (.hostSetT x) s = .next { s with ext := { s.ext with t := t } }) ∧
    (∃ f : BitVec 3, f.toNat = x % 8 ∧ exec (.hostSetFinex x) s = .next { s with ext := { s.ext with fineX := f } }) ∧
    exec .hostClrIrq s = .next { s with irq := false }

/-- HOST_SET_IDLE (R244; D22) and HOST_SET_SPRFLAGS (R246; D19, D42); and one `SET E.f = x` line, which sets
one field and keeps the row's other (30_encoding.md R91; the model's reading, log 16). -/
def Obligations.OtherSetterResults : Prop :=
  ∀ (s : State) (b b' : Bool) (n : Nat),
    exec (.hostSetIdle n) s = .next { s with idle := n } ∧
    exec (.hostSetSprflags b b') s = .next { s with spriteZeroHit := b, spriteOverflow := b' } ∧
    exec (.hostSetCtrl (some b) none) s = .next { s with ext := { s.ext with bgPatternSelect := b } } ∧
    exec (.hostSetCtrl none (some b)) s = .next { s with ext := { s.ext with irqEnable := b } } ∧
    exec (.hostSetMask (some b) none) s = .next { s with ext := { s.ext with showBg := b } } ∧
    exec (.hostSetMask none (some b)) s = .next { s with ext := { s.ext with showSpr := b } } ∧
    exec (.hostSetCtrl none none) s = .next s ∧ exec (.hostSetMask none none) s = .next s

/-- HOST_POKE (R247): the byte the named port answers for `a` becomes `b`, every other byte of both views
reads as before (that the other view keeps its byte is the model's reading, log 4), nothing else
changes, and the memories stay canonical. -/
def Obligations.PokeChangesOneByteOfOneView : Prop :=
  ∀ (s : State) (p : Port) (a : Addr) (b : Byte), ∃ t, exec (.hostPoke p a b) s = .next t ∧
    t.readByte p a = some b ∧
    (∀ (q : Port) (c : Addr), ¬(q = p ∧ c = a) → t.readByte q c = s.readByte q c) ∧
    { t with gen := s.gen, raw := s.raw } = s ∧
    (Memory.wf s.gen = true → Memory.wf s.raw = true → Memory.wf t.gen = true ∧ Memory.wf t.raw = true)

/-- HOST_OBSERVE (R248): "the move changes no state"; what it reads is the two flags, the frame buffer, the
pulse of the last tick and the memory events of the last tick. -/
def Obligations.ObserveChangesNothing : Prop :=
  ∀ s : State, exec .hostObserve s = .next s ∧
    s.observe.vblank = s.vblank ∧ s.observe.irq = s.irq ∧ s.observe.fb = s.fb ∧
    (s.observe.vblankEdge = true ↔ Event.vblankEdge ∈ s.events) ∧
    (∀ e, e ∈ s.observe.memoryEvents ↔ e ∈ s.events ∧
      ((∃ p a b, e = .read p a b) ∨ ∃ a b k, e = .write a b k))

/-- HOST_REINIT (R260, R261) with an admitted, well-formed `S0`: the whole tuple of 10_state.md R20 takes
its values, the frame buffer cell by cell (D23), and E and the memory contents, which "are host state and
are not part of S0", keep theirs, with the status location and the parameters. The model's choices, not
the spec's: that the sample and the palette address are kept (log 9), the events (log 10), the waiting
moves (log 7), and that acceptance of the status write is a field of the host's side (log 5). -/
def Obligations.ReinitReplacesTheTuple : Prop :=
  ∀ (s : State) (S0 : InitImage), admitted S0 = true → Instr.wellFormed (.hostReinit S0) = true →
    ∃ t, exec (.hostReinit S0) s = .next t ∧
      t.dot = S0.dot ∧ t.scanline = S0.scanline ∧ t.v.toNat = S0.v ∧ t.slo.toNat = S0.slo ∧ t.shi.toNat = S0.shi ∧
      t.alo.toNat = S0.alo ∧ t.ahi.toNat = S0.ahi ∧ t.ntLatch.toNat = S0.ntLatch ∧ t.atLatch.toNat = S0.atLatch ∧
      t.ptLoLatch.toNat = S0.ptLoLatch ∧ t.ptHiLatch.toNat = S0.ptHiLatch ∧ t.ptBase.toNat = S0.ptBase ∧
      t.stage = S0.stage ∧ t.idle = S0.idle ∧ t.cpVis = S0.cpVis ∧ t.cpPre = S0.cpPre ∧ t.vblank = S0.vblank ∧
      t.irq = S0.irq ∧ t.spriteZeroHit = S0.spriteZeroHit ∧ t.spriteOverflow = S0.spriteOverflow ∧
      t.frameParity.toNat = S0.frameParity ∧
      (∀ row col, col < 256 → t.fbCell row col =
        (S0.fb.find? fun c => c.row == row && c.col == col).map
          fun c => ⟨BitVec.ofNat 8 c.r, BitVec.ofNat 8 c.g, BitVec.ofNat 8 c.b⟩) ∧
      FrameBuffer.wf t.fb = true ∧
      t.ext = s.ext ∧ t.gen = s.gen ∧ t.raw = s.raw ∧ t.statusByte = s.statusByte ∧
      t.statusAccepts = s.statusAccepts ∧ t.params = s.params ∧ t.snap = s.snap ∧ t.pa = s.pa ∧
      t.events = s.events ∧ t.pending = s.pending

/-- 70_reset_and_hazards.md R261, 60_exceptions.md R232: any other `S0` is refused, and what is admitted is
the list of R261. -/
def Obligations.OtherInitialStatesAreRefused : Prop :=
  ∀ (s : State) (S0 : InitImage),
    (admitted S0 = true ↔
      S0.dot ≤ 340 ∧ S0.scanline ≤ 261 ∧ S0.v < 2 ^ 15 ∧ S0.slo < 2 ^ 16 ∧ S0.shi < 2 ^ 16 ∧
      S0.alo < 2 ^ 8 ∧ S0.ahi < 2 ^ 8 ∧ S0.ntLatch < 2 ^ 8 ∧ S0.atLatch < 2 ^ 8 ∧ S0.ptLoLatch < 2 ^ 8 ∧
      S0.ptHiLatch < 2 ^ 8 ∧ S0.ptBase < 2 ^ 14 ∧ (S0.frameParity = 0 ∨ S0.frameParity = 1) ∧
      ∀ c ∈ S0.fb, c.row < 224 ∧ c.col < 256 ∧ c.r < 2 ^ 8 ∧ c.g < 2 ^ 8 ∧ c.b < 2 ^ 8) ∧
    (admitted S0 = false → exec (.hostReinit S0) s = .refused .initOutOfRange)

/-- 10_state.md R41, 70_reset_and_hazards.md R260: `INIT` alone gives REF_INIT, at which the model's reset
state stands (the spec's own choice, log 1). -/
def Obligations.ReinitToReferenceGivesReset : Prop :=
  decode (ascii "INIT") = .ok (.hostReinit InitImage.refInit) ∧
  exec (.hostReinit InitImage.refInit) State.reset = .next State.reset

/-- 60_exceptions.md R249 (D25): no host move but a reinitialisation and the tick itself writes `v`, the
shift and attribute registers, the latches, `ptBase`, `stage`, the checkpoints, `vblank` or
`frameParity`, and none sets `irq`. None writes the counters, which only the counter advance writes
(10_state.md R21, R22), or the frame buffer, which only the pixel renderer writes (R35, 20_memory.md
R63). -/
def Obligations.HostMovesNeverTouchTheDatapath : Prop :=
  ∀ (i : Instr) (s t : State), i.isHostMove = true → i ≠ .advance → (∀ S0, i ≠ .hostReinit S0) →
    exec i s = .next t →
    t.dot = s.dot ∧ t.scanline = s.scanline ∧ t.v = s.v ∧ t.slo = s.slo ∧ t.shi = s.shi ∧ t.alo = s.alo ∧
    t.ahi = s.ahi ∧ t.ntLatch = s.ntLatch ∧ t.atLatch = s.atLatch ∧ t.ptLoLatch = s.ptLoLatch ∧
    t.ptHiLatch = s.ptHiLatch ∧ t.ptBase = s.ptBase ∧ t.stage = s.stage ∧ t.cpVis = s.cpVis ∧ t.cpPre = s.cpPre ∧
    t.vblank = s.vblank ∧ t.frameParity = s.frameParity ∧ t.fb = s.fb ∧ (t.irq = true → s.irq = true)
end

