-- ==== Sys2Proof/Laws/State.lean ====
section
/-! SUPPORT. One lemma for each field and each named update of State. -/

namespace Sys2Proof.Machine

/-! ## `State.emit` -/

@[simp] theorem State.emit_dot (s : State) (e : Event) : (s.emit e).dot = s.dot := rfl
@[simp] theorem State.emit_scanline (s : State) (e : Event) : (s.emit e).scanline = s.scanline := rfl
@[simp] theorem State.emit_v (s : State) (e : Event) : (s.emit e).v = s.v := rfl
@[simp] theorem State.emit_slo (s : State) (e : Event) : (s.emit e).slo = s.slo := rfl
@[simp] theorem State.emit_shi (s : State) (e : Event) : (s.emit e).shi = s.shi := rfl
@[simp] theorem State.emit_alo (s : State) (e : Event) : (s.emit e).alo = s.alo := rfl
@[simp] theorem State.emit_ahi (s : State) (e : Event) : (s.emit e).ahi = s.ahi := rfl
@[simp] theorem State.emit_ntLatch (s : State) (e : Event) : (s.emit e).ntLatch = s.ntLatch := rfl
@[simp] theorem State.emit_atLatch (s : State) (e : Event) : (s.emit e).atLatch = s.atLatch := rfl
@[simp] theorem State.emit_ptLoLatch (s : State) (e : Event) : (s.emit e).ptLoLatch = s.ptLoLatch := rfl
@[simp] theorem State.emit_ptHiLatch (s : State) (e : Event) : (s.emit e).ptHiLatch = s.ptHiLatch := rfl
@[simp] theorem State.emit_ptBase (s : State) (e : Event) : (s.emit e).ptBase = s.ptBase := rfl
@[simp] theorem State.emit_stage (s : State) (e : Event) : (s.emit e).stage = s.stage := rfl
@[simp] theorem State.emit_idle (s : State) (e : Event) : (s.emit e).idle = s.idle := rfl
@[simp] theorem State.emit_cpVis (s : State) (e : Event) : (s.emit e).cpVis = s.cpVis := rfl
@[simp] theorem State.emit_cpPre (s : State) (e : Event) : (s.emit e).cpPre = s.cpPre := rfl
@[simp] theorem State.emit_vblank (s : State) (e : Event) : (s.emit e).vblank = s.vblank := rfl
@[simp] theorem State.emit_irq (s : State) (e : Event) : (s.emit e).irq = s.irq := rfl
@[simp] theorem State.emit_spriteZeroHit (s : State) (e : Event) : (s.emit e).spriteZeroHit = s.spriteZeroHit := rfl
@[simp] theorem State.emit_spriteOverflow (s : State) (e : Event) : (s.emit e).spriteOverflow = s.spriteOverflow := rfl
@[simp] theorem State.emit_frameParity (s : State) (e : Event) : (s.emit e).frameParity = s.frameParity := rfl
@[simp] theorem State.emit_fb (s : State) (e : Event) : (s.emit e).fb = s.fb := rfl
@[simp] theorem State.emit_ext (s : State) (e : Event) : (s.emit e).ext = s.ext := rfl
@[simp] theorem State.emit_gen (s : State) (e : Event) : (s.emit e).gen = s.gen := rfl
@[simp] theorem State.emit_raw (s : State) (e : Event) : (s.emit e).raw = s.raw := rfl
@[simp] theorem State.emit_statusByte (s : State) (e : Event) : (s.emit e).statusByte = s.statusByte := rfl
@[simp] theorem State.emit_statusAccepts (s : State) (e : Event) : (s.emit e).statusAccepts = s.statusAccepts := rfl
@[simp] theorem State.emit_params (s : State) (e : Event) : (s.emit e).params = s.params := rfl
@[simp] theorem State.emit_snap (s : State) (e : Event) : (s.emit e).snap = s.snap := rfl
@[simp] theorem State.emit_pa (s : State) (e : Event) : (s.emit e).pa = s.pa := rfl
@[simp] theorem State.emit_events (s : State) (e : Event) : (s.emit e).events = s.events ++ [e] := rfl
@[simp] theorem State.emit_pending (s : State) (e : Event) : (s.emit e).pending = s.pending := rfl

/-! ## `State.beginTick` -/

@[simp] theorem State.beginTick_dot (s : State) : (s.beginTick).dot = s.dot := rfl
@[simp] theorem State.beginTick_scanline (s : State) : (s.beginTick).scanline = s.scanline := rfl
@[simp] theorem State.beginTick_v (s : State) : (s.beginTick).v = s.v := rfl
@[simp] theorem State.beginTick_slo (s : State) : (s.beginTick).slo = s.slo := rfl
@[simp] theorem State.beginTick_shi (s : State) : (s.beginTick).shi = s.shi := rfl
@[simp] theorem State.beginTick_alo (s : State) : (s.beginTick).alo = s.alo := rfl
@[simp] theorem State.beginTick_ahi (s : State) : (s.beginTick).ahi = s.ahi := rfl
@[simp] theorem State.beginTick_ntLatch (s : State) : (s.beginTick).ntLatch = s.ntLatch := rfl
@[simp] theorem State.beginTick_atLatch (s : State) : (s.beginTick).atLatch = s.atLatch := rfl
@[simp] theorem State.beginTick_ptLoLatch (s : State) : (s.beginTick).ptLoLatch = s.ptLoLatch := rfl
@[simp] theorem State.beginTick_ptHiLatch (s : State) : (s.beginTick).ptHiLatch = s.ptHiLatch := rfl
@[simp] theorem State.beginTick_ptBase (s : State) : (s.beginTick).ptBase = s.ptBase := rfl
@[simp] theorem State.beginTick_stage (s : State) : (s.beginTick).stage = s.stage := rfl
@[simp] theorem State.beginTick_idle (s : State) : (s.beginTick).idle = s.idle := rfl
@[simp] theorem State.beginTick_cpVis (s : State) : (s.beginTick).cpVis = s.cpVis := rfl
@[simp] theorem State.beginTick_cpPre (s : State) : (s.beginTick).cpPre = s.cpPre := rfl
@[simp] theorem State.beginTick_vblank (s : State) : (s.beginTick).vblank = s.vblank := rfl
@[simp] theorem State.beginTick_irq (s : State) : (s.beginTick).irq = s.irq := rfl
@[simp] theorem State.beginTick_spriteZeroHit (s : State) : (s.beginTick).spriteZeroHit = s.spriteZeroHit := rfl
@[simp] theorem State.beginTick_spriteOverflow (s : State) : (s.beginTick).spriteOverflow = s.spriteOverflow := rfl
@[simp] theorem State.beginTick_frameParity (s : State) : (s.beginTick).frameParity = s.frameParity := rfl
@[simp] theorem State.beginTick_fb (s : State) : (s.beginTick).fb = s.fb := rfl
@[simp] theorem State.beginTick_ext (s : State) : (s.beginTick).ext = s.ext := rfl
@[simp] theorem State.beginTick_gen (s : State) : (s.beginTick).gen = s.gen := rfl
@[simp] theorem State.beginTick_raw (s : State) : (s.beginTick).raw = s.raw := rfl
@[simp] theorem State.beginTick_statusByte (s : State) : (s.beginTick).statusByte = s.statusByte := rfl
@[simp] theorem State.beginTick_statusAccepts (s : State) : (s.beginTick).statusAccepts = s.statusAccepts := rfl
@[simp] theorem State.beginTick_params (s : State) : (s.beginTick).params = s.params := rfl
@[simp] theorem State.beginTick_snap (s : State) : (s.beginTick).snap = s.snap := rfl
@[simp] theorem State.beginTick_pa (s : State) : (s.beginTick).pa = s.pa := rfl
@[simp] theorem State.beginTick_events (s : State) : (s.beginTick).events = [] := rfl
@[simp] theorem State.beginTick_pending (s : State) : (s.beginTick).pending = s.pending := rfl

/-! ## `State.setVblank` -/

@[simp] theorem State.setVblank_dot (s : State) : (s.setVblank).dot = s.dot := rfl
@[simp] theorem State.setVblank_scanline (s : State) : (s.setVblank).scanline = s.scanline := rfl
@[simp] theorem State.setVblank_v (s : State) : (s.setVblank).v = s.v := rfl
@[simp] theorem State.setVblank_slo (s : State) : (s.setVblank).slo = s.slo := rfl
@[simp] theorem State.setVblank_shi (s : State) : (s.setVblank).shi = s.shi := rfl
@[simp] theorem State.setVblank_alo (s : State) : (s.setVblank).alo = s.alo := rfl
@[simp] theorem State.setVblank_ahi (s : State) : (s.setVblank).ahi = s.ahi := rfl
@[simp] theorem State.setVblank_ntLatch (s : State) : (s.setVblank).ntLatch = s.ntLatch := rfl
@[simp] theorem State.setVblank_atLatch (s : State) : (s.setVblank).atLatch = s.atLatch := rfl
@[simp] theorem State.setVblank_ptLoLatch (s : State) : (s.setVblank).ptLoLatch = s.ptLoLatch := rfl
@[simp] theorem State.setVblank_ptHiLatch (s : State) : (s.setVblank).ptHiLatch = s.ptHiLatch := rfl
@[simp] theorem State.setVblank_ptBase (s : State) : (s.setVblank).ptBase = s.ptBase := rfl
@[simp] theorem State.setVblank_stage (s : State) : (s.setVblank).stage = s.stage := rfl
@[simp] theorem State.setVblank_idle (s : State) : (s.setVblank).idle = s.idle := rfl
@[simp] theorem State.setVblank_cpVis (s : State) : (s.setVblank).cpVis = s.cpVis := rfl
@[simp] theorem State.setVblank_cpPre (s : State) : (s.setVblank).cpPre = s.cpPre := rfl
@[simp] theorem State.setVblank_vblank (s : State) : (s.setVblank).vblank = true := rfl
@[simp] theorem State.setVblank_irq (s : State) : (s.setVblank).irq = s.irq := rfl
@[simp] theorem State.setVblank_spriteZeroHit (s : State) : (s.setVblank).spriteZeroHit = s.spriteZeroHit := rfl
@[simp] theorem State.setVblank_spriteOverflow (s : State) : (s.setVblank).spriteOverflow = s.spriteOverflow := rfl
@[simp] theorem State.setVblank_frameParity (s : State) : (s.setVblank).frameParity = s.frameParity := rfl
@[simp] theorem State.setVblank_fb (s : State) : (s.setVblank).fb = s.fb := rfl
@[simp] theorem State.setVblank_ext (s : State) : (s.setVblank).ext = s.ext := rfl
@[simp] theorem State.setVblank_gen (s : State) : (s.setVblank).gen = s.gen := rfl
@[simp] theorem State.setVblank_raw (s : State) : (s.setVblank).raw = s.raw := rfl
@[simp] theorem State.setVblank_statusByte (s : State) : (s.setVblank).statusByte = s.statusByte := rfl
@[simp] theorem State.setVblank_statusAccepts (s : State) : (s.setVblank).statusAccepts = s.statusAccepts := rfl
@[simp] theorem State.setVblank_params (s : State) : (s.setVblank).params = s.params := rfl
@[simp] theorem State.setVblank_snap (s : State) : (s.setVblank).snap = s.snap := rfl
@[simp] theorem State.setVblank_pa (s : State) : (s.setVblank).pa = s.pa := rfl
@[simp] theorem State.setVblank_events (s : State) : (s.setVblank).events = s.events ++ [.vblankEdge] := rfl
@[simp] theorem State.setVblank_pending (s : State) : (s.setVblank).pending = s.pending := rfl

/-! ## `State.clearFlags` -/

@[simp] theorem State.clearFlags_dot (s : State) : (s.clearFlags).dot = s.dot := rfl
@[simp] theorem State.clearFlags_scanline (s : State) : (s.clearFlags).scanline = s.scanline := rfl
@[simp] theorem State.clearFlags_v (s : State) : (s.clearFlags).v = s.v := rfl
@[simp] theorem State.clearFlags_slo (s : State) : (s.clearFlags).slo = s.slo := rfl
@[simp] theorem State.clearFlags_shi (s : State) : (s.clearFlags).shi = s.shi := rfl
@[simp] theorem State.clearFlags_alo (s : State) : (s.clearFlags).alo = s.alo := rfl
@[simp] theorem State.clearFlags_ahi (s : State) : (s.clearFlags).ahi = s.ahi := rfl
@[simp] theorem State.clearFlags_ntLatch (s : State) : (s.clearFlags).ntLatch = s.ntLatch := rfl
@[simp] theorem State.clearFlags_atLatch (s : State) : (s.clearFlags).atLatch = s.atLatch := rfl
@[simp] theorem State.clearFlags_ptLoLatch (s : State) : (s.clearFlags).ptLoLatch = s.ptLoLatch := rfl
@[simp] theorem State.clearFlags_ptHiLatch (s : State) : (s.clearFlags).ptHiLatch = s.ptHiLatch := rfl
@[simp] theorem State.clearFlags_ptBase (s : State) : (s.clearFlags).ptBase = s.ptBase := rfl
@[simp] theorem State.clearFlags_stage (s : State) : (s.clearFlags).stage = s.stage := rfl
@[simp] theorem State.clearFlags_idle (s : State) : (s.clearFlags).idle = s.idle := rfl
@[simp] theorem State.clearFlags_cpVis (s : State) : (s.clearFlags).cpVis = s.cpVis := rfl
@[simp] theorem State.clearFlags_cpPre (s : State) : (s.clearFlags).cpPre = s.cpPre := rfl
@[simp] theorem State.clearFlags_vblank (s : State) : (s.clearFlags).vblank = false := rfl
@[simp] theorem State.clearFlags_irq (s : State) : (s.clearFlags).irq = s.irq := rfl
@[simp] theorem State.clearFlags_spriteZeroHit (s : State) : (s.clearFlags).spriteZeroHit = false := rfl
@[simp] theorem State.clearFlags_spriteOverflow (s : State) : (s.clearFlags).spriteOverflow = false := rfl
@[simp] theorem State.clearFlags_frameParity (s : State) : (s.clearFlags).frameParity = s.frameParity := rfl
@[simp] theorem State.clearFlags_fb (s : State) : (s.clearFlags).fb = s.fb := rfl
@[simp] theorem State.clearFlags_ext (s : State) : (s.clearFlags).ext = s.ext := rfl
@[simp] theorem State.clearFlags_gen (s : State) : (s.clearFlags).gen = s.gen := rfl
@[simp] theorem State.clearFlags_raw (s : State) : (s.clearFlags).raw = s.raw := rfl
@[simp] theorem State.clearFlags_statusByte (s : State) : (s.clearFlags).statusByte = s.statusByte := rfl
@[simp] theorem State.clearFlags_statusAccepts (s : State) : (s.clearFlags).statusAccepts = s.statusAccepts := rfl
@[simp] theorem State.clearFlags_params (s : State) : (s.clearFlags).params = s.params := rfl
@[simp] theorem State.clearFlags_snap (s : State) : (s.clearFlags).snap = s.snap := rfl
@[simp] theorem State.clearFlags_pa (s : State) : (s.clearFlags).pa = s.pa := rfl
@[simp] theorem State.clearFlags_events (s : State) : (s.clearFlags).events = s.events := rfl
@[simp] theorem State.clearFlags_pending (s : State) : (s.clearFlags).pending = s.pending := rfl

/-! ## `State.clearIrq` -/

@[simp] theorem State.clearIrq_dot (s : State) : (s.clearIrq).dot = s.dot := rfl
@[simp] theorem State.clearIrq_scanline (s : State) : (s.clearIrq).scanline = s.scanline := rfl
@[simp] theorem State.clearIrq_v (s : State) : (s.clearIrq).v = s.v := rfl
@[simp] theorem State.clearIrq_slo (s : State) : (s.clearIrq).slo = s.slo := rfl
@[simp] theorem State.clearIrq_shi (s : State) : (s.clearIrq).shi = s.shi := rfl
@[simp] theorem State.clearIrq_alo (s : State) : (s.clearIrq).alo = s.alo := rfl
@[simp] theorem State.clearIrq_ahi (s : State) : (s.clearIrq).ahi = s.ahi := rfl
@[simp] theorem State.clearIrq_ntLatch (s : State) : (s.clearIrq).ntLatch = s.ntLatch := rfl
@[simp] theorem State.clearIrq_atLatch (s : State) : (s.clearIrq).atLatch = s.atLatch := rfl
@[simp] theorem State.clearIrq_ptLoLatch (s : State) : (s.clearIrq).ptLoLatch = s.ptLoLatch := rfl
@[simp] theorem State.clearIrq_ptHiLatch (s : State) : (s.clearIrq).ptHiLatch = s.ptHiLatch := rfl
@[simp] theorem State.clearIrq_ptBase (s : State) : (s.clearIrq).ptBase = s.ptBase := rfl
@[simp] theorem State.clearIrq_stage (s : State) : (s.clearIrq).stage = s.stage := rfl
@[simp] theorem State.clearIrq_idle (s : State) : (s.clearIrq).idle = s.idle := rfl
@[simp] theorem State.clearIrq_cpVis (s : State) : (s.clearIrq).cpVis = s.cpVis := rfl
@[simp] theorem State.clearIrq_cpPre (s : State) : (s.clearIrq).cpPre = s.cpPre := rfl
@[simp] theorem State.clearIrq_vblank (s : State) : (s.clearIrq).vblank = s.vblank := rfl
@[simp] theorem State.clearIrq_irq (s : State) : (s.clearIrq).irq = false := rfl
@[simp] theorem State.clearIrq_spriteZeroHit (s : State) : (s.clearIrq).spriteZeroHit = s.spriteZeroHit := rfl
@[simp] theorem State.clearIrq_spriteOverflow (s : State) : (s.clearIrq).spriteOverflow = s.spriteOverflow := rfl
@[simp] theorem State.clearIrq_frameParity (s : State) : (s.clearIrq).frameParity = s.frameParity := rfl
@[simp] theorem State.clearIrq_fb (s : State) : (s.clearIrq).fb = s.fb := rfl
@[simp] theorem State.clearIrq_ext (s : State) : (s.clearIrq).ext = s.ext := rfl
@[simp] theorem State.clearIrq_gen (s : State) : (s.clearIrq).gen = s.gen := rfl
@[simp] theorem State.clearIrq_raw (s : State) : (s.clearIrq).raw = s.raw := rfl
@[simp] theorem State.clearIrq_statusByte (s : State) : (s.clearIrq).statusByte = s.statusByte := rfl
@[simp] theorem State.clearIrq_statusAccepts (s : State) : (s.clearIrq).statusAccepts = s.statusAccepts := rfl
@[simp] theorem State.clearIrq_params (s : State) : (s.clearIrq).params = s.params := rfl
@[simp] theorem State.clearIrq_snap (s : State) : (s.clearIrq).snap = s.snap := rfl
@[simp] theorem State.clearIrq_pa (s : State) : (s.clearIrq).pa = s.pa := rfl
@[simp] theorem State.clearIrq_events (s : State) : (s.clearIrq).events = s.events := rfl
@[simp] theorem State.clearIrq_pending (s : State) : (s.clearIrq).pending = s.pending := rfl

/-! ## `State.putPixel` -/

@[simp] theorem State.putPixel_dot (s : State) (row col : Nat) (color : RGB) : (s.putPixel row col color).dot = s.dot := rfl
@[simp] theorem State.putPixel_scanline (s : State) (row col : Nat) (color : RGB) : (s.putPixel row col color).scanline = s.scanline := rfl
@[simp] theorem State.putPixel_v (s : State) (row col : Nat) (color : RGB) : (s.putPixel row col color).v = s.v := rfl
@[simp] theorem State.putPixel_slo (s : State) (row col : Nat) (color : RGB) : (s.putPixel row col color).slo = s.slo := rfl
@[simp] theorem State.putPixel_shi (s : State) (row col : Nat) (color : RGB) : (s.putPixel row col color).shi = s.shi := rfl
@[simp] theorem State.putPixel_alo (s : State) (row col : Nat) (color : RGB) : (s.putPixel row col color).alo = s.alo := rfl
@[simp] theorem State.putPixel_ahi (s : State) (row col : Nat) (color : RGB) : (s.putPixel row col color).ahi = s.ahi := rfl
@[simp] theorem State.putPixel_ntLatch (s : State) (row col : Nat) (color : RGB) : (s.putPixel row col color).ntLatch = s.ntLatch := rfl
@[simp] theorem State.putPixel_atLatch (s : State) (row col : Nat) (color : RGB) : (s.putPixel row col color).atLatch = s.atLatch := rfl
@[simp] theorem State.putPixel_ptLoLatch (s : State) (row col : Nat) (color : RGB) : (s.putPixel row col color).ptLoLatch = s.ptLoLatch := rfl
@[simp] theorem State.putPixel_ptHiLatch (s : State) (row col : Nat) (color : RGB) : (s.putPixel row col color).ptHiLatch = s.ptHiLatch := rfl
@[simp] theorem State.putPixel_ptBase (s : State) (row col : Nat) (color : RGB) : (s.putPixel row col color).ptBase = s.ptBase := rfl
@[simp] theorem State.putPixel_stage (s : State) (row col : Nat) (color : RGB) : (s.putPixel row col color).stage = s.stage := rfl
@[simp] theorem State.putPixel_idle (s : State) (row col : Nat) (color : RGB) : (s.putPixel row col color).idle = s.idle := rfl
@[simp] theorem State.putPixel_cpVis (s : State) (row col : Nat) (color : RGB) : (s.putPixel row col color).cpVis = s.cpVis := rfl
@[simp] theorem State.putPixel_cpPre (s : State) (row col : Nat) (color : RGB) : (s.putPixel row col color).cpPre = s.cpPre := rfl
@[simp] theorem State.putPixel_vblank (s : State) (row col : Nat) (color : RGB) : (s.putPixel row col color).vblank = s.vblank := rfl
@[simp] theorem State.putPixel_irq (s : State) (row col : Nat) (color : RGB) : (s.putPixel row col color).irq = s.irq := rfl
@[simp] theorem State.putPixel_spriteZeroHit (s : State) (row col : Nat) (color : RGB) : (s.putPixel row col color).spriteZeroHit = s.spriteZeroHit := rfl
@[simp] theorem State.putPixel_spriteOverflow (s : State) (row col : Nat) (color : RGB) : (s.putPixel row col color).spriteOverflow = s.spriteOverflow := rfl
@[simp] theorem State.putPixel_frameParity (s : State) (row col : Nat) (color : RGB) : (s.putPixel row col color).frameParity = s.frameParity := rfl
@[simp] theorem State.putPixel_fb (s : State) (row col : Nat) (color : RGB) : (s.putPixel row col color).fb = putCell (fbPos row col) color s.fb := rfl
@[simp] theorem State.putPixel_ext (s : State) (row col : Nat) (color : RGB) : (s.putPixel row col color).ext = s.ext := rfl
@[simp] theorem State.putPixel_gen (s : State) (row col : Nat) (color : RGB) : (s.putPixel row col color).gen = s.gen := rfl
@[simp] theorem State.putPixel_raw (s : State) (row col : Nat) (color : RGB) : (s.putPixel row col color).raw = s.raw := rfl
@[simp] theorem State.putPixel_statusByte (s : State) (row col : Nat) (color : RGB) : (s.putPixel row col color).statusByte = s.statusByte := rfl
@[simp] theorem State.putPixel_statusAccepts (s : State) (row col : Nat) (color : RGB) : (s.putPixel row col color).statusAccepts = s.statusAccepts := rfl
@[simp] theorem State.putPixel_params (s : State) (row col : Nat) (color : RGB) : (s.putPixel row col color).params = s.params := rfl
@[simp] theorem State.putPixel_snap (s : State) (row col : Nat) (color : RGB) : (s.putPixel row col color).snap = s.snap := rfl
@[simp] theorem State.putPixel_pa (s : State) (row col : Nat) (color : RGB) : (s.putPixel row col color).pa = s.pa := rfl
@[simp] theorem State.putPixel_events (s : State) (row col : Nat) (color : RGB) : (s.putPixel row col color).events = s.events ++ [.pixel row col color] := rfl
@[simp] theorem State.putPixel_pending (s : State) (row col : Nat) (color : RGB) : (s.putPixel row col color).pending = s.pending := rfl

/-! ## Conditional updates -/

@[simp] theorem State.raiseIrq_dot (s : State) : s.raiseIrq.dot = s.dot := by
  cases h : s.snap.irqEnable <;> simp [State.raiseIrq, h]
@[simp] theorem State.raiseIrq_scanline (s : State) : s.raiseIrq.scanline = s.scanline := by
  cases h : s.snap.irqEnable <;> simp [State.raiseIrq, h]
@[simp] theorem State.raiseIrq_v (s : State) : s.raiseIrq.v = s.v := by
  cases h : s.snap.irqEnable <;> simp [State.raiseIrq, h]
@[simp] theorem State.raiseIrq_slo (s : State) : s.raiseIrq.slo = s.slo := by
  cases h : s.snap.irqEnable <;> simp [State.raiseIrq, h]
@[simp] theorem State.raiseIrq_shi (s : State) : s.raiseIrq.shi = s.shi := by
  cases h : s.snap.irqEnable <;> simp [State.raiseIrq, h]
@[simp] theorem State.raiseIrq_alo (s : State) : s.raiseIrq.alo = s.alo := by
  cases h : s.snap.irqEnable <;> simp [State.raiseIrq, h]
@[simp] theorem State.raiseIrq_ahi (s : State) : s.raiseIrq.ahi = s.ahi := by
  cases h : s.snap.irqEnable <;> simp [State.raiseIrq, h]
@[simp] theorem State.raiseIrq_ntLatch (s : State) : s.raiseIrq.ntLatch = s.ntLatch := by
  cases h : s.snap.irqEnable <;> simp [State.raiseIrq, h]
@[simp] theorem State.raiseIrq_atLatch (s : State) : s.raiseIrq.atLatch = s.atLatch := by
  cases h : s.snap.irqEnable <;> simp [State.raiseIrq, h]
@[simp] theorem State.raiseIrq_ptLoLatch (s : State) : s.raiseIrq.ptLoLatch = s.ptLoLatch := by
  cases h : s.snap.irqEnable <;> simp [State.raiseIrq, h]
@[simp] theorem State.raiseIrq_ptHiLatch (s : State) : s.raiseIrq.ptHiLatch = s.ptHiLatch := by
  cases h : s.snap.irqEnable <;> simp [State.raiseIrq, h]
@[simp] theorem State.raiseIrq_ptBase (s : State) : s.raiseIrq.ptBase = s.ptBase := by
  cases h : s.snap.irqEnable <;> simp [State.raiseIrq, h]
@[simp] theorem State.raiseIrq_stage (s : State) : s.raiseIrq.stage = s.stage := by
  cases h : s.snap.irqEnable <;> simp [State.raiseIrq, h]
@[simp] theorem State.raiseIrq_idle (s : State) : s.raiseIrq.idle = s.idle := by
  cases h : s.snap.irqEnable <;> simp [State.raiseIrq, h]
@[simp] theorem State.raiseIrq_cpVis (s : State) : s.raiseIrq.cpVis = s.cpVis := by
  cases h : s.snap.irqEnable <;> simp [State.raiseIrq, h]
@[simp] theorem State.raiseIrq_cpPre (s : State) : s.raiseIrq.cpPre = s.cpPre := by
  cases h : s.snap.irqEnable <;> simp [State.raiseIrq, h]
@[simp] theorem State.raiseIrq_vblank (s : State) : s.raiseIrq.vblank = s.vblank := by
  cases h : s.snap.irqEnable <;> simp [State.raiseIrq, h]
@[simp] theorem State.raiseIrq_irq (s : State) : s.raiseIrq.irq = (s.irq || s.snap.irqEnable) := by
  cases h : s.snap.irqEnable <;> simp [State.raiseIrq, h]
@[simp] theorem State.raiseIrq_spriteZeroHit (s : State) : s.raiseIrq.spriteZeroHit = s.spriteZeroHit := by
  cases h : s.snap.irqEnable <;> simp [State.raiseIrq, h]
@[simp] theorem State.raiseIrq_spriteOverflow (s : State) : s.raiseIrq.spriteOverflow = s.spriteOverflow := by
  cases h : s.snap.irqEnable <;> simp [State.raiseIrq, h]
@[simp] theorem State.raiseIrq_frameParity (s : State) : s.raiseIrq.frameParity = s.frameParity := by
  cases h : s.snap.irqEnable <;> simp [State.raiseIrq, h]
@[simp] theorem State.raiseIrq_fb (s : State) : s.raiseIrq.fb = s.fb := by
  cases h : s.snap.irqEnable <;> simp [State.raiseIrq, h]
@[simp] theorem State.raiseIrq_ext (s : State) : s.raiseIrq.ext = s.ext := by
  cases h : s.snap.irqEnable <;> simp [State.raiseIrq, h]
@[simp] theorem State.raiseIrq_gen (s : State) : s.raiseIrq.gen = s.gen := by
  cases h : s.snap.irqEnable <;> simp [State.raiseIrq, h]
@[simp] theorem State.raiseIrq_raw (s : State) : s.raiseIrq.raw = s.raw := by
  cases h : s.snap.irqEnable <;> simp [State.raiseIrq, h]
@[simp] theorem State.raiseIrq_statusByte (s : State) : s.raiseIrq.statusByte = s.statusByte := by
  cases h : s.snap.irqEnable <;> simp [State.raiseIrq, h]
@[simp] theorem State.raiseIrq_statusAccepts (s : State) : s.raiseIrq.statusAccepts = s.statusAccepts := by
  cases h : s.snap.irqEnable <;> simp [State.raiseIrq, h]
@[simp] theorem State.raiseIrq_params (s : State) : s.raiseIrq.params = s.params := by
  cases h : s.snap.irqEnable <;> simp [State.raiseIrq, h]
@[simp] theorem State.raiseIrq_snap (s : State) : s.raiseIrq.snap = s.snap := by
  cases h : s.snap.irqEnable <;> simp [State.raiseIrq, h]
@[simp] theorem State.raiseIrq_pa (s : State) : s.raiseIrq.pa = s.pa := by
  cases h : s.snap.irqEnable <;> simp [State.raiseIrq, h]
@[simp] theorem State.raiseIrq_events (s : State) : s.raiseIrq.events = s.events := by
  cases h : s.snap.irqEnable <;> simp [State.raiseIrq, h]
@[simp] theorem State.raiseIrq_pending (s : State) : s.raiseIrq.pending = s.pending := by
  cases h : s.snap.irqEnable <;> simp [State.raiseIrq, h]

@[simp] theorem State.pokeByte_dot (s : State) (p : Port) (a : Addr) (b : Byte) :
    (s.pokeByte p a b).dot = s.dot := by
  cases p <;> rfl
@[simp] theorem State.pokeByte_scanline (s : State) (p : Port) (a : Addr) (b : Byte) :
    (s.pokeByte p a b).scanline = s.scanline := by
  cases p <;> rfl
@[simp] theorem State.pokeByte_v (s : State) (p : Port) (a : Addr) (b : Byte) :
    (s.pokeByte p a b).v = s.v := by
  cases p <;> rfl
@[simp] theorem State.pokeByte_slo (s : State) (p : Port) (a : Addr) (b : Byte) :
    (s.pokeByte p a b).slo = s.slo := by
  cases p <;> rfl
@[simp] theorem State.pokeByte_shi (s : State) (p : Port) (a : Addr) (b : Byte) :
    (s.pokeByte p a b).shi = s.shi := by
  cases p <;> rfl
@[simp] theorem State.pokeByte_alo (s : State) (p : Port) (a : Addr) (b : Byte) :
    (s.pokeByte p a b).alo = s.alo := by
  cases p <;> rfl
@[simp] theorem State.pokeByte_ahi (s : State) (p : Port) (a : Addr) (b : Byte) :
    (s.pokeByte p a b).ahi = s.ahi := by
  cases p <;> rfl
@[simp] theorem State.pokeByte_ntLatch (s : State) (p : Port) (a : Addr) (b : Byte) :
    (s.pokeByte p a b).ntLatch = s.ntLatch := by
  cases p <;> rfl
@[simp] theorem State.pokeByte_atLatch (s : State) (p : Port) (a : Addr) (b : Byte) :
    (s.pokeByte p a b).atLatch = s.atLatch := by
  cases p <;> rfl
@[simp] theorem State.pokeByte_ptLoLatch (s : State) (p : Port) (a : Addr) (b : Byte) :
    (s.pokeByte p a b).ptLoLatch = s.ptLoLatch := by
  cases p <;> rfl
@[simp] theorem State.pokeByte_ptHiLatch (s : State) (p : Port) (a : Addr) (b : Byte) :
    (s.pokeByte p a b).ptHiLatch = s.ptHiLatch := by
  cases p <;> rfl
@[simp] theorem State.pokeByte_ptBase (s : State) (p : Port) (a : Addr) (b : Byte) :
    (s.pokeByte p a b).ptBase = s.ptBase := by
  cases p <;> rfl
@[simp] theorem State.pokeByte_stage (s : State) (p : Port) (a : Addr) (b : Byte) :
    (s.pokeByte p a b).stage = s.stage := by
  cases p <;> rfl
@[simp] theorem State.pokeByte_idle (s : State) (p : Port) (a : Addr) (b : Byte) :
    (s.pokeByte p a b).idle = s.idle := by
  cases p <;> rfl
@[simp] theorem State.pokeByte_cpVis (s : State) (p : Port) (a : Addr) (b : Byte) :
    (s.pokeByte p a b).cpVis = s.cpVis := by
  cases p <;> rfl
@[simp] theorem State.pokeByte_cpPre (s : State) (p : Port) (a : Addr) (b : Byte) :
    (s.pokeByte p a b).cpPre = s.cpPre := by
  cases p <;> rfl
@[simp] theorem State.pokeByte_vblank (s : State) (p : Port) (a : Addr) (b : Byte) :
    (s.pokeByte p a b).vblank = s.vblank := by
  cases p <;> rfl
@[simp] theorem State.pokeByte_irq (s : State) (p : Port) (a : Addr) (b : Byte) :
    (s.pokeByte p a b).irq = s.irq := by
  cases p <;> rfl
@[simp] theorem State.pokeByte_spriteZeroHit (s : State) (p : Port) (a : Addr) (b : Byte) :
    (s.pokeByte p a b).spriteZeroHit = s.spriteZeroHit := by
  cases p <;> rfl
@[simp] theorem State.pokeByte_spriteOverflow (s : State) (p : Port) (a : Addr) (b : Byte) :
    (s.pokeByte p a b).spriteOverflow = s.spriteOverflow := by
  cases p <;> rfl
@[simp] theorem State.pokeByte_frameParity (s : State) (p : Port) (a : Addr) (b : Byte) :
    (s.pokeByte p a b).frameParity = s.frameParity := by
  cases p <;> rfl
@[simp] theorem State.pokeByte_fb (s : State) (p : Port) (a : Addr) (b : Byte) :
    (s.pokeByte p a b).fb = s.fb := by
  cases p <;> rfl
@[simp] theorem State.pokeByte_ext (s : State) (p : Port) (a : Addr) (b : Byte) :
    (s.pokeByte p a b).ext = s.ext := by
  cases p <;> rfl
@[simp] theorem State.pokeByte_statusByte (s : State) (p : Port) (a : Addr) (b : Byte) :
    (s.pokeByte p a b).statusByte = s.statusByte := by
  cases p <;> rfl
@[simp] theorem State.pokeByte_statusAccepts (s : State) (p : Port) (a : Addr) (b : Byte) :
    (s.pokeByte p a b).statusAccepts = s.statusAccepts := by
  cases p <;> rfl
@[simp] theorem State.pokeByte_params (s : State) (p : Port) (a : Addr) (b : Byte) :
    (s.pokeByte p a b).params = s.params := by
  cases p <;> rfl
@[simp] theorem State.pokeByte_snap (s : State) (p : Port) (a : Addr) (b : Byte) :
    (s.pokeByte p a b).snap = s.snap := by
  cases p <;> rfl
@[simp] theorem State.pokeByte_pa (s : State) (p : Port) (a : Addr) (b : Byte) :
    (s.pokeByte p a b).pa = s.pa := by
  cases p <;> rfl
@[simp] theorem State.pokeByte_events (s : State) (p : Port) (a : Addr) (b : Byte) :
    (s.pokeByte p a b).events = s.events := by
  cases p <;> rfl
@[simp] theorem State.pokeByte_pending (s : State) (p : Port) (a : Addr) (b : Byte) :
    (s.pokeByte p a b).pending = s.pending := by
  cases p <;> rfl

end Sys2Proof.Machine
end

