-- ==== Sys2Proof/Laws/Cells.lean ====
section
/-! SUPPORT. Sorted cells: read after write, and the canonical form kept by every write. -/

namespace Sys2Proof.Machine

variable {α : Type}

@[simp] theorem cellAt_nil (k : Nat) : cellAt k ([] : List (Nat × α)) = none := rfl

@[simp] theorem cellAt_cons (k k' : Nat) (x : α) (rest : List (Nat × α)) :
    cellAt k ((k', x) :: rest) = if k = k' then some x else cellAt k rest := rfl

/-- Reading the place just written gives the value written. -/
@[simp] theorem cellAt_putCell_same (k : Nat) (x : α) (m : List (Nat × α)) : cellAt k (putCell k x m) = some x := by
  induction m with
  | nil => simp [putCell]
  | cons c rest ih =>
    obtain ⟨k', y⟩ := c
    simp only [putCell]
    split
    · simp
    · split
      · simp
      · next h => simp [h, ih]

/-- A write leaves every other place alone. -/
theorem cellAt_putCell_other {j k : Nat} (h : j ≠ k) (x : α) (m : List (Nat × α)) :
    cellAt j (putCell k x m) = cellAt j m := by
  induction m with
  | nil => simp [putCell, h]
  | cons c rest ih =>
    obtain ⟨k', y⟩ := c
    simp only [putCell]
    split
    · simp [h]
    · split
      · next h1 => subst h1; simp [h]
      · simp [ih]

/-- Reading after a write, both cases at once. -/
theorem cellAt_putCell (j k : Nat) (x : α) (m : List (Nat × α)) :
    cellAt j (putCell k x m) = if j = k then some x else cellAt j m := by
  split
  · next h => subst h; simp
  · next h => exact cellAt_putCell_other h x m

theorem cellsFrom_mono {lo lo' bound : Nat} (h : lo' ≤ lo) {m : List (Nat × α)} (hm : cellsFrom lo bound m = true) :
    cellsFrom lo' bound m = true := by
  cases m with
  | nil => rfl
  | cons c rest =>
    obtain ⟨k, y⟩ := c
    simp only [cellsFrom, Bool.and_eq_true, decide_eq_true_eq] at hm ⊢
    exact ⟨⟨by omega, hm.1.2⟩, hm.2⟩

/-- A write inside the bounds keeps the canonical form. -/
theorem cellsFrom_putCell {lo bound k : Nat} (x : α) (h1 : lo ≤ k) (h2 : k < bound) {m : List (Nat × α)}
    (hm : cellsFrom lo bound m = true) : cellsFrom lo bound (putCell k x m) = true := by
  induction m generalizing lo with
  | nil => simp [putCell, cellsFrom, h1, h2]
  | cons c rest ih =>
    obtain ⟨k', y⟩ := c
    simp only [cellsFrom, Bool.and_eq_true, decide_eq_true_eq] at hm
    simp only [putCell]
    split
    · next h =>
      simp only [cellsFrom, Bool.and_eq_true, decide_eq_true_eq]
      exact ⟨⟨h1, h2⟩, ⟨by omega, hm.1.2⟩, hm.2⟩
    · split
      · next h =>
        subst h
        simp only [cellsFrom, Bool.and_eq_true, decide_eq_true_eq]
        exact ⟨⟨h1, h2⟩, hm.2⟩
      · next h h' =>
        simp only [cellsFrom, Bool.and_eq_true, decide_eq_true_eq]
        exact ⟨hm.1, ih (by omega) hm.2⟩

/-- Nothing is listed below the lower bound. -/
theorem cellAt_eq_none_of_lt {lo bound k : Nat} (h : k < lo) {m : List (Nat × α)} (hm : cellsFrom lo bound m = true) :
    cellAt k m = none := by
  induction m generalizing lo with
  | nil => rfl
  | cons c rest ih =>
    obtain ⟨k', y⟩ := c
    simp only [cellsFrom, Bool.and_eq_true, decide_eq_true_eq] at hm
    rw [cellAt_cons, if_neg (by omega)]
    exact ih (by omega) hm.2

/-- Two canonical lists that answer every key alike are equal. -/
theorem cells_ext {lo bound : Nat} {m n : List (Nat × α)} (hm : cellsFrom lo bound m = true)
    (hn : cellsFrom lo bound n = true) (h : ∀ k, cellAt k m = cellAt k n) : m = n := by
  induction m generalizing lo n with
  | nil =>
    cases n with
    | nil => rfl
    | cons c rest =>
      obtain ⟨k, y⟩ := c
      have := h k
      simp at this
  | cons c rest ih =>
    obtain ⟨k, y⟩ := c
    simp only [cellsFrom, Bool.and_eq_true, decide_eq_true_eq] at hm
    cases n with
    | nil =>
      have := h k
      simp at this
    | cons c' rest' =>
      obtain ⟨k', y'⟩ := c'
      simp only [cellsFrom, Bool.and_eq_true, decide_eq_true_eq] at hn
      have hk : k = k' := by
        rcases Nat.lt_trichotomy k k' with hlt | heq | hgt
        · have := h k
          rw [cellAt_cons, if_pos rfl, cellAt_cons, if_neg (by omega),
            cellAt_eq_none_of_lt (by omega) hn.2] at this
          simp at this
        · exact heq
        · have := h k'
          rw [cellAt_cons, if_neg (by omega), cellAt_eq_none_of_lt (by omega) hm.2, cellAt_cons, if_pos rfl] at this
          simp at this
      subst hk
      have hy : y = y' := by
        have := h k
        simpa using this
      subst hy
      have hrest : rest = rest' := by
        refine ih hm.2 hn.2 fun j => ?_
        by_cases hj : j = k
        · subst hj
          rw [cellAt_eq_none_of_lt (by omega) hm.2, cellAt_eq_none_of_lt (by omega) hn.2]
        · have := h j
          simpa [hj] using this
      rw [hrest]

/-! ## The two ports -/

@[simp] theorem readByte_generic (s : State) (a : Addr) : s.readByte .generic a = cellAt a.toNat s.gen := rfl

@[simp] theorem readByte_raw (s : State) (a : Addr) : s.readByte .raw a = cellAt a.toNat s.raw := rfl

/-- Reading after HOST_POKE: one byte of one view (60_exceptions.md R247). -/
theorem readByte_pokeByte (s : State) (p q : Port) (a c : Addr) (b : Byte) :
    (s.pokeByte p a b).readByte q c = if q = p ∧ c = a then some b else s.readByte q c := by
  cases p <;> cases q <;> simp [State.pokeByte, cellAt_putCell, BitVec.toNat_inj]

/-- A poke keeps both memories canonical. -/
theorem pokeByte_wf (s : State) (p : Port) (a : Addr) (b : Byte) (hg : Memory.wf s.gen = true)
    (hr : Memory.wf s.raw = true) :
    Memory.wf (s.pokeByte p a b).gen = true ∧ Memory.wf (s.pokeByte p a b).raw = true := by
  cases p
  · exact ⟨cellsFrom_putCell b (Nat.zero_le _) a.isLt hg, hr⟩
  · exact ⟨hg, cellsFrom_putCell b (Nat.zero_le _) a.isLt hr⟩

/-- Reset memory is canonical. -/
theorem reset_memory_wf : Memory.wf State.reset.gen = true ∧ Memory.wf State.reset.raw = true ∧
    FrameBuffer.wf State.reset.fb = true := ⟨rfl, rfl, rfl⟩

/-! ## The frame buffer -/

/-- Two cells of the frame buffer have one place only if they are one cell. -/
theorem fbPos_inj {row col row' col' : Nat} (h : col < 256) (h' : col' < 256) :
    fbPos row col = fbPos row' col' ↔ row = row' ∧ col = col' := by
  unfold fbPos
  omega

theorem fbPos_lt {row col : Nat} (h : row < 224) (h' : col < 256) : fbPos row col < 57344 := by
  unfold fbPos
  omega

/-- Reading a cell after a pixel is written. -/
theorem fbCell_putPixel (s : State) {row col row' col' : Nat} (color : RGB) (h : col < 256) (h' : col' < 256) :
    (s.putPixel row col color).fbCell row' col' =
      if row' = row ∧ col' = col then some color else s.fbCell row' col' := by
  simp [State.fbCell, cellAt_putCell, fbPos_inj h' h]

end Sys2Proof.Machine
end

