-- ==== Sys2Proof/Laws/Fields.lean ====
section
/-! SUPPORT. The fields of `v`: each field after each update (00_scope.md R9; 41_address_pathway.md R120-R124), and the register
as the sum of its fields; the bits of a reloaded pattern register and of the attribute group. -/

namespace Sys2Proof.Machine

/-- `v` is the sum of its fields at their places (30_encoding.md R70). -/
theorem toNat_eq_fields (v : VReg) :
    v.toNat = (coarseX v).toNat + 32 * (coarseY v).toNat + 1024 * (nametableSelect v).toNat + 4096 * (fineY v).toNat := by
  have := v.isLt
  simp only [coarseX, coarseY, nametableSelect, fineY, BitVec.extractLsb'_toNat, Nat.shiftRight_eq_div_pow]
  omega

/-- The two nametable bits are the nametable select. -/
theorem nametableSelect_toNat (v : VReg) : (nametableSelect v).toNat = (ntH v).toNat + 2 * (ntV v).toNat := by
  have := v.isLt
  simp only [nametableSelect, ntH, ntV, BitVec.extractLsb'_toNat, BitVec.getLsbD, Nat.testBit, Nat.shiftRight_eq_div_pow]
  have h (n : Nat) : (1 &&& n != 0).toNat = n % 2 := by
    rw [Nat.land_comm, Nat.and_one_is_mod]
    rcases Nat.mod_two_eq_zero_or_one n with h | h <;> simp [h]
  rw [h, h]
  omega

/-! ## Coarse Y replaced -/

@[simp] theorem coarseX_setCoarseY (v : VReg) (c : BitVec 5) : coarseX (setCoarseY v c) = coarseX v := by
  apply BitVec.eq_of_getLsbD_eq
  intro i hi
  interval_cases i <;> simp [coarseX, setCoarseY]

@[simp] theorem coarseY_setCoarseY (v : VReg) (c : BitVec 5) : coarseY (setCoarseY v c) = c := by
  apply BitVec.eq_of_getLsbD_eq
  intro i hi
  interval_cases i <;> simp [coarseY, setCoarseY]

@[simp] theorem ntH_setCoarseY (v : VReg) (c : BitVec 5) : ntH (setCoarseY v c) = ntH v := by
  simp [ntH, setCoarseY]

@[simp] theorem ntV_setCoarseY (v : VReg) (c : BitVec 5) : ntV (setCoarseY v c) = ntV v := by
  simp [ntV, setCoarseY]

@[simp] theorem fineY_setCoarseY (v : VReg) (c : BitVec 5) : fineY (setCoarseY v c) = fineY v := by
  apply BitVec.eq_of_getLsbD_eq
  intro i hi
  interval_cases i <;> simp [fineY, setCoarseY]

/-! ## Fine Y replaced -/

@[simp] theorem coarseX_setFineY (v : VReg) (f : BitVec 3) : coarseX (setFineY v f) = coarseX v := by
  apply BitVec.eq_of_getLsbD_eq
  intro i hi
  interval_cases i <;> simp [coarseX, setFineY]

@[simp] theorem coarseY_setFineY (v : VReg) (f : BitVec 3) : coarseY (setFineY v f) = coarseY v := by
  apply BitVec.eq_of_getLsbD_eq
  intro i hi
  interval_cases i <;> simp [coarseY, setFineY]

@[simp] theorem ntH_setFineY (v : VReg) (f : BitVec 3) : ntH (setFineY v f) = ntH v := by
  simp [ntH, setFineY]

@[simp] theorem ntV_setFineY (v : VReg) (f : BitVec 3) : ntV (setFineY v f) = ntV v := by
  simp [ntV, setFineY]

@[simp] theorem fineY_setFineY (v : VReg) (f : BitVec 3) : fineY (setFineY v f) = f := by
  apply BitVec.eq_of_getLsbD_eq
  intro i hi
  interval_cases i <;> simp [fineY, setFineY]

/-! ## A nametable bit toggled -/

@[simp] theorem coarseX_toggleV (v : VReg) : coarseX (v ^^^ 0x0800#15) = coarseX v := by
  apply BitVec.eq_of_getLsbD_eq
  intro i hi
  interval_cases i <;> simp [coarseX]

@[simp] theorem coarseY_toggleV (v : VReg) : coarseY (v ^^^ 0x0800#15) = coarseY v := by
  apply BitVec.eq_of_getLsbD_eq
  intro i hi
  interval_cases i <;> simp [coarseY]

@[simp] theorem ntH_toggleV (v : VReg) : ntH (v ^^^ 0x0800#15) = ntH v := by simp [ntH]

@[simp] theorem ntV_toggleV (v : VReg) : ntV (v ^^^ 0x0800#15) = !ntV v := by simp [ntV]

@[simp] theorem fineY_toggleV (v : VReg) : fineY (v ^^^ 0x0800#15) = fineY v := by
  apply BitVec.eq_of_getLsbD_eq
  intro i hi
  interval_cases i <;> simp [fineY]

/-! ## Counting up without a carry out of the field -/

/-- Fine Y counts up inside its field. -/
theorem fields_add_fineY {v : VReg} (h : fineY v ≠ 7#3) :
    fineY (v + 0x1000#15) = fineY v + 1#3 ∧ coarseX (v + 0x1000#15) = coarseX v ∧
    coarseY (v + 0x1000#15) = coarseY v ∧ nametableSelect (v + 0x1000#15) = nametableSelect v := by
  have := v.isLt
  have h' : (fineY v).toNat ≠ 7 := fun e => h (BitVec.eq_of_toNat_eq e)
  simp only [fineY, coarseX, coarseY, nametableSelect, ← BitVec.toNat_inj, BitVec.extractLsb'_toNat, BitVec.toNat_add,
    BitVec.toNat_ofNat, Nat.shiftRight_eq_div_pow] at h' ⊢
  omega

/-- Coarse X counts up inside its field. -/
theorem fields_add_coarseX {v : VReg} (h : coarseX v ≠ 31#5) :
    coarseX (v + 1#15) = coarseX v + 1#5 ∧ fineY (v + 1#15) = fineY v ∧ coarseY (v + 1#15) = coarseY v ∧
    nametableSelect (v + 1#15) = nametableSelect v := by
  have := v.isLt
  have h' : (coarseX v).toNat ≠ 31 := fun e => h (BitVec.eq_of_toNat_eq e)
  simp only [fineY, coarseX, coarseY, nametableSelect, ← BitVec.toNat_inj, BitVec.extractLsb'_toNat, BitVec.toNat_add,
    BitVec.toNat_ofNat, Nat.shiftRight_eq_div_pow] at h' ⊢
  omega

/-- The nametable bits follow the nametable select. -/
theorem ntH_of_nametableSelect {v w : VReg} (h : nametableSelect v = nametableSelect w) : ntH v = ntH w := by
  have := congrArg (fun x => x.getLsbD 0) h
  simpa [nametableSelect, ntH] using this

theorem ntV_of_nametableSelect {v w : VReg} (h : nametableSelect v = nametableSelect w) : ntV v = ntV w := by
  have := congrArg (fun x => x.getLsbD 1) h
  simpa [nametableSelect, ntV] using this

/-- Two registers with the same fields are equal. -/
theorem eq_of_fields {v w : VReg} (h1 : coarseX v = coarseX w) (h2 : coarseY v = coarseY w)
    (h3 : nametableSelect v = nametableSelect w) (h4 : fineY v = fineY w) : v = w := by
  apply BitVec.eq_of_toNat_eq
  rw [toNat_eq_fields v, toNat_eq_fields w, h1, h2, h3, h4]

/-! ## Bits -/

/-- A copy bit by bit (41_address_pathway.md R121, R122). -/
theorem getLsbD_copyBits (mask v t : VReg) (i : Nat) :
    (copyBits mask v t).getLsbD i = if mask.getLsbD i then t.getLsbD i else v.getLsbD i := by
  by_cases hi : i < 15
  · cases h : mask.getLsbD i <;> rw [BitVec.getLsbD_eq_getElem hi] at h <;> simp [copyBits, h, hi]
  · simp [copyBits, BitVec.getLsbD_of_ge _ _ (Nat.le_of_not_lt hi)]

/-- `bitAt` is the bit (30_encoding.md R87). -/
theorem bitAt_eq_ofBool {w : Nat} (r : BitVec w) (f : BitVec 3) : bitAt r f = BitVec.ofBool (r.getLsbD f.toNat) := by
  apply BitVec.eq_of_getLsbD_eq
  intro i hi
  obtain rfl : i = 0 := by omega
  simp [bitAt]

/-- A replicated bit is the bit in every place (30_encoding.md R84). -/
theorem getLsbD_replicateBit (b : Bool) {n : Nat} (h : n < 8) : (replicateBit b).getLsbD n = b := by
  cases b
  · simp [replicateBit]
  · interval_cases n <;> rfl

/-- The bits of the attribute group (30_encoding.md R84). -/
theorem getLsbD_attrGroup (l : Byte) (v : VReg) {n : Nat} (h : n < 2) :
    (attrGroup l v).getLsbD n = l.getLsbD (4 * (v.getLsbD 5).toNat + 2 * (v.getLsbD 0).toNat + n) := by
  simp [attrGroup, h]

/-- A byte loaded into bits 15:8 shows its bit `n` at bit 0 after `8 + n` shifts: loaded at dot
8(k − 1) + 1, with a shift in that tick and in each after it (43_shift_mux.md R170, R172), it shows bit
`n` at dot 8k + n, as R176 says (log 21). -/
theorem loadHigh_ushiftRight_getLsbD_zero (r : Pattern) (b : Byte) {n : Nat} (h : n < 8) :
    (loadHigh r b >>> (8 + n)).getLsbD 0 = b.getLsbD n := by
  have h1 : 8 + n < 16 := by omega
  have h2 : ¬ 8 + n < 8 := by omega
  have h4 : n < 16 := by omega
  have h3 : (0x00FF#16).getLsbD (8 + n) = false := by interval_cases n <;> rfl
  simp [loadHigh, h1, h2, h3, h4, -BitVec.getLsbD_eq_getElem]

end Sys2Proof.Machine
end

