-- ==== Sys2Proof/Laws/Notation.lean ====
section
/-! SUPPORT. The script notation (30_encoding.md R91): numbers and words read back as written, and a line of lexemes with a blank
between each two lexes to those lexemes. -/

namespace Sys2Proof

/-! ## Numbers -/

/-- A decimal digit's byte. -/
theorem decDigit_ofNat {d : Nat} (h : d < 10) : decDigit (BitVec.ofNat 8 (0x30 + d)) = some d := by
  interval_cases d <;> rfl

/-- Digits written before `acc` read as the number, then `acc` is read after it. -/
theorem digitsValue_decText (fuel n : Nat) (acc : Text) (h : n < fuel) :
    digitsValue 10 decDigit (decText fuel n acc) 0 = digitsValue 10 decDigit acc n := by
  induction fuel generalizing n acc with
  | zero => omega
  | succ fuel ih =>
    unfold decText
    split
    · next h1 => simp [digitsValue, decDigit_ofNat h1]
    · next h1 =>
      rw [ih (n / 10) _ (by omega)]
      simp only [digitsValue, decDigit_ofNat (Nat.mod_lt n (by decide : 10 > 0))]
      rw [show 10 * (n / 10) + n % 10 = n by omega]

/-- Every byte written is a decimal digit, and at least one is. -/
theorem decText_digits (fuel n : Nat) (acc : Text) (ha : ∀ c ∈ acc, (decDigit c).isSome = true) :
    ∀ c ∈ decText fuel n acc, (decDigit c).isSome = true := by
  induction fuel generalizing n acc with
  | zero => exact ha
  | succ fuel ih =>
    unfold decText
    split
    · next h1 =>
      intro c hc
      rcases List.mem_cons.1 hc with rfl | hc
      · simp [decDigit_ofNat h1]
      · exact ha c hc
    · refine ih _ _ fun c hc => ?_
      rcases List.mem_cons.1 hc with rfl | hc
      · simp [decDigit_ofNat (Nat.mod_lt n (by decide : 10 > 0))]
      · exact ha c hc

theorem decText_ne_nil (fuel n : Nat) (acc : Text) (h : acc ≠ [] ∨ 0 < fuel) : decText fuel n acc ≠ [] := by
  induction fuel generalizing n acc with
  | zero => simpa [decText] using h
  | succ fuel ih =>
    unfold decText
    split
    · simp
    · exact ih _ _ (.inl (by simp))

theorem natText_digits (n : Nat) : ∀ c ∈ natText n, (decDigit c).isSome = true :=
  decText_digits _ _ _ (by simp)

theorem natText_ne_nil (n : Nat) : natText n ≠ [] := decText_ne_nil _ _ _ (.inr (Nat.succ_pos n))

/-- A number written in decimal reads back. -/
theorem numberOf_natText (n : Nat) : numberOf (natText n) = some n := by
  have hv : digitsValue 10 decDigit (natText n) 0 = some n := digitsValue_decText (n + 1) n [] (by omega)
  have hd := natText_digits n
  have hn := natText_ne_nil n
  revert hv hd hn
  generalize natText n = w
  intro hv hd hn
  match w with
  | [] => exact absurd rfl hn
  | [c] =>
    simp only [digitsValue] at hv
    simp only [numberOf]
    split at hv
    · cases hv
    · next x hx => rw [hx]; simpa using hv
  | c :: x :: hs =>
    have hx : x ≠ 0x78#8 := by
      rintro rfl
      exact absurd (hd 0x78#8 (by simp)) (by decide)
    have hb : x ≠ 0x62#8 := by
      rintro rfl
      exact absurd (hd 0x62#8 (by simp)) (by decide)
    simp only [numberOf, hx, hb, and_false, if_false]
    exact hv

/-- Digits are word bytes. -/
theorem isWordByte_of_digit {c : Byte} (h : (decDigit c).isSome = true) : isWordByte c = true := by
  unfold decDigit at h
  split at h
  · next h1 => simp [isWordByte, h1]
  · cases h

/-! ## Words -/

/-- Each row of the table is found by its word and by its meaning, and its word is made of word bytes
and starts with no digit. -/
theorem keywordTable_rows : ∀ p ∈ keywordTable, Keyword.lookup p.1 = some p.2 ∧ p.2.spell = p.1 ∧
    p.1.all isWordByte = true ∧ (p.1.head?.map fun c => (decDigit c).isSome) = some false := by
  decide

/-- A word that the table lists reads back. -/
theorem lookup_spell {k : Keyword} (h : k ∈ keywordTable.map Prod.snd) : Keyword.lookup k.spell = some k := by
  obtain ⟨p, hp, rfl⟩ := List.mem_map.1 h
  obtain ⟨h1, h2, -, -⟩ := keywordTable_rows p hp
  rw [h2, h1]

/-! ## Lexing -/

/-- A lexeme that has a text: a keyword of the table, a number or a sign. -/
def Lexeme.written : Lexeme → Prop
  | .kw k => k ∈ keywordTable.map Prod.snd
  | .num _ => True
  | .eq => True
  | .comma => True
  | .semi => True

/-- Word bytes are collected. -/
theorem lexFrom_word (cur w rest : Text) (h : w.all isWordByte = true) : lexFrom cur (w ++ rest) = lexFrom (cur ++ w) rest := by
  induction w generalizing cur with
  | nil => simp
  | cons c cs ih =>
    simp only [List.all_cons, Bool.and_eq_true] at h
    rw [List.cons_append, lexFrom, if_pos h.1, ih _ h.2]
    simp

/-- The word of a lexeme, and what it reads as. -/
theorem wordLexeme_text {l : Lexeme} (h : l.written) :
    (l.text.all isWordByte = true ∧ wordLexeme l.text = .ok [l]) ∨ l = .eq ∨ l = .comma ∨ l = .semi := by
  cases l with
  | kw k =>
    left
    obtain ⟨p, hp, rfl⟩ := List.mem_map.1 h
    obtain ⟨h1, h2, h3, h4⟩ := keywordTable_rows p hp
    simp only [Lexeme.text, h2]
    refine ⟨h3, ?_⟩
    revert h1 h4
    generalize p.1 = w
    intro h1 h4
    match w with
    | [] => cases h4
    | c :: cs =>
      have hc : (decDigit c).isSome = false := by simpa using h4
      simp [wordLexeme, hc, h1]
  | num n =>
    left
    have hd := natText_digits n
    have hn := natText_ne_nil n
    have hv := numberOf_natText n
    simp only [Lexeme.text]
    refine ⟨List.all_eq_true.2 fun c hc => isWordByte_of_digit (hd c hc), ?_⟩
    revert hd hn hv
    generalize natText n = w
    intro hd hn hv
    match w with
    | [] => exact absurd rfl hn
    | c :: cs => simp [wordLexeme, hd c (by simp), hv]
  | eq => right; left; rfl
  | comma => right; right; left; rfl
  | semi => right; right; right; rfl

/-- The lexeme at the end of a line. -/
theorem lexFrom_text {l : Lexeme} (h : l.written) : lexFrom [] l.text = .ok [l] := by
  rcases wordLexeme_text h with ⟨hw, hx⟩ | rfl | rfl | rfl
  · have := lexFrom_word [] l.text [] hw
    rw [List.append_nil] at this
    rw [this]
    exact hx
  · rfl
  · rfl
  · rfl

/-- The lexeme before a blank. -/
theorem lexFrom_text_blank {l : Lexeme} (h : l.written) {rest : Text} {ls : List Lexeme} (hr : lexFrom [] rest = .ok ls) :
    lexFrom [] (l.text ++ 0x20#8 :: rest) = .ok (l :: ls) := by
  have hs : signLexeme 0x20#8 = .ok [] := rfl
  have hb : isWordByte 0x20#8 = false := rfl
  have blank (cur : Text) : lexFrom cur (0x20#8 :: rest) =
      match wordLexeme cur, signLexeme 0x20#8, lexFrom [] rest with
      | .ok a, .ok b, .ok r => .ok (a ++ b ++ r)
      | .error e, _, _ => .error e
      | .ok _, .error e, _ => .error e
      | .ok _, .ok _, .error e => .error e := by
    exact (lexFrom.eq_2 cur 0x20#8 rest).trans (if_neg (by simp [hb]))
  rcases wordLexeme_text h with ⟨hw, hx⟩ | rfl | rfl | rfl
  · rw [lexFrom_word _ _ _ hw, blank, List.nil_append, hx, hs, hr]
    try rfl
  all_goals
    simp only [Lexeme.text]
    have h0 : wordLexeme ([] : Text) = .ok [] := rfl
    show lexFrom [] (_ :: 0x20#8 :: rest) = _
    rw [lexFrom, if_neg (by decide), blank, h0, hs, hr]
    try rfl

/-- A rendered line lexes to its lexemes. -/
theorem lex_render (ls : List Lexeme) (h : ∀ l ∈ ls, l.written) : lex (render ls) = .ok ls := by
  unfold lex
  induction ls with
  | nil => rfl
  | cons l rest ih =>
    have hl := h l (by simp)
    have hr := ih fun x hx => h x (by simp [hx])
    match rest with
    | [] => exact lexFrom_text hl
    | x :: xs => exact lexFrom_text_blank hl hr

/-! ## Rendered lines in a script -/

/-- A byte of a rendered line. -/
def isLineByte (c : Byte) : Bool := isWordByte c || c == 0x20#8 || c == 0x3D#8 || c == 0x2C#8 || c == 0x3B#8

theorem text_lineBytes {l : Lexeme} (h : l.written) : l.text.all isLineByte = true := by
  rcases wordLexeme_text h with ⟨hw, -⟩ | rfl | rfl | rfl
  · rw [List.all_eq_true] at hw ⊢
    intro c hc
    simp [isLineByte, hw c hc]
  all_goals rfl

theorem render_lineBytes (ls : List Lexeme) (h : ∀ l ∈ ls, l.written) : (render ls).all isLineByte = true := by
  induction ls with
  | nil => rfl
  | cons l rest ih =>
    have hl := text_lineBytes (h l (by simp))
    have hr := ih fun x hx => h x (by simp [hx])
    match rest with
    | [] => exact hl
    | x :: xs =>
      show (l.text ++ 0x20#8 :: render (x :: xs)).all isLineByte = true
      rw [List.all_append, List.all_cons, hl, hr]
      rfl

/-- A rendered line holds no comment. -/
theorem stripComment_of_lineBytes {t : Text} (h : t.all isLineByte = true) : stripComment t = t := by
  induction t with
  | nil => rfl
  | cons c cs ih =>
    simp only [List.all_cons, Bool.and_eq_true] at h
    have hc : c ≠ 0x2D#8 := by
      rintro rfl
      exact absurd h.1 (by decide)
    simp [stripComment, hc, ih h.2]

/-- A rendered line is one line. -/
theorem linesFrom_of_lineBytes {t : Text} (h : t.all isLineByte = true) (cur : Text) : linesFrom cur t = [cur ++ t] := by
  induction t generalizing cur with
  | nil => simp [linesFrom]
  | cons c cs ih =>
    simp only [List.all_cons, Bool.and_eq_true] at h
    have hc : c ≠ 0x0A#8 := by
      rintro rfl
      exact absurd h.1 (by decide)
    simp [linesFrom, hc, ih h.2]

/-- A script of one rendered line. -/
theorem decodeScript_render (l : Lexeme) (ls : List Lexeme) (h : ∀ x ∈ l :: ls, x.written) :
    decodeScript (render (l :: ls)) = (parseLine (l :: ls)).map fun sl => [sl] := by
  have hb := render_lineBytes _ h
  rw [decodeScript, linesFrom_of_lineBytes hb, List.nil_append]
  simp only [decodeLines, stripComment_of_lineBytes hb, lex_render _ h]
  cases parseLine (l :: ls) <;> rfl

end Sys2Proof
end

