-- ==== Sys2Proof/Laws/Outcome.lean ====
section
/-! SUPPORT. Outcomes in sequence, and what each shared operation can do. -/

namespace Sys2Proof.Machine

@[simp] theorem andThen_next (s : State) (f : State → Out) : andThen (.next s) f = f s := rfl

@[simp] theorem andThen_fault (r : Fault) (f : State → Out) : andThen (.fault r) f = .fault r := rfl

@[simp] theorem andThen_refused (r : Refusal) (f : State → Out) : andThen (.refused r) f = .refused r := rfl

@[simp] theorem andThen_pure (o : Out) : andThen o .next = o := by cases o <;> rfl

theorem andThen_assoc (o : Out) (f g : State → Out) : andThen (andThen o f) g = andThen o fun s => andThen (f s) g := by
  cases o <;> rfl

/-- A sequence ends in a next state only through one. -/
theorem andThen_eq_next {o : Out} {f : State → Out} {t : State} :
    andThen o f = .next t ↔ ∃ s, o = .next s ∧ f s = .next t := by
  cases o <;> simp

/-- A sequence faults in its first part, or in its second after a next state. -/
theorem andThen_eq_fault {o : Out} {f : State → Out} {r : Fault} :
    andThen o f = .fault r ↔ o = .fault r ∨ ∃ s, o = .next s ∧ f s = .fault r := by
  cases o <;> simp

theorem andThen_eq_refused {o : Out} {f : State → Out} {r : Refusal} :
    andThen o f = .refused r ↔ o = .refused r ∨ ∃ s, o = .next s ∧ f s = .refused r := by
  cases o <;> simp

@[simp] theorem keepPre_next (pre s : State) : keepPre pre (.next s) = .next s := rfl

@[simp] theorem keepPre_eq_next {pre : State} {o : Out} {t : State} : keepPre pre o = .next t ↔ o = .next t := by
  cases o <;> simp [keepPre]

@[simp] theorem keepPre_eq_refused {pre : State} {o : Out} {r : Refusal} :
    keepPre pre o = .refused r ↔ o = .refused r := by
  cases o <;> simp [keepPre]

/-- A fault seen through `keepPre` is one with the pre-tick state put in. -/
theorem keepPre_eq_fault {pre : State} {o : Out} {f : Fault} :
    keepPre pre o = .fault f ↔ ∃ g, o = .fault g ∧ f = g.withPre pre := by
  cases o <;> simp [keepPre, eq_comm]

@[simp] theorem withPre_pre (pre : State) (f : Fault) : (f.withPre pre).pre = pre := by cases f <;> rfl

@[simp] theorem withPre_withPre (p q : State) (f : Fault) : (f.withPre p).withPre q = f.withPre q := by cases f <;> rfl

/-! ## Memory accesses -/

theorem memRead_some {p : Port} {a : Addr} {s : State} {b : Byte} (h : s.readByte p a = some b) (k : Byte → State → Out) :
    memRead p a s k = k b (s.emit (.read p a b)) := by simp [memRead, h]

theorem memRead_none {p : Port} {a : Addr} {s : State} (h : s.readByte p a = none) (k : Byte → State → Out) :
    memRead p a s k = .fault (.memoryContract s.scanline s.dot (.read p a) s.events s) := by
  simp [memRead, h, raiseMemory]

/-- A read that ends in a next state was answered. -/
theorem memRead_eq_next {p : Port} {a : Addr} {s t : State} {k : Byte → State → Out} :
    memRead p a s k = .next t ↔ ∃ b, s.readByte p a = some b ∧ k b (s.emit (.read p a b)) = .next t := by
  cases h : s.readByte p a <;> simp [memRead, h, raiseMemory]

/-- A read faults because it is not answered, or in what follows it. -/
theorem memRead_eq_fault {p : Port} {a : Addr} {s : State} {k : Byte → State → Out} {f : Fault} :
    memRead p a s k = .fault f ↔
      (s.readByte p a = none ∧ f = .memoryContract s.scanline s.dot (.read p a) s.events s) ∨
      ∃ b, s.readByte p a = some b ∧ k b (s.emit (.read p a b)) = .fault f := by
  cases h : s.readByte p a <;> simp [memRead, h, raiseMemory, eq_comm]

/-- The status write: the byte and one event, or MemoryContract. -/
theorem statusWrite_cases (b : Byte) (s : State) :
    (s.statusAccepts = true ∧
      statusWrite b s = .next ({ s with statusByte := b }.emit (.write s.params.statusAddr b s.params.token))) ∨
    (s.statusAccepts = false ∧
      statusWrite b s =
        .fault (.memoryContract s.scanline s.dot (.write s.params.statusAddr b s.params.token) s.events s)) := by
  cases h : s.statusAccepts <;> simp [statusWrite, h, raiseMemory]

/-! ## The colour lookup -/

theorem rgbEntry_eq_some {s : State} {b : Byte} (h : b.toNat < 64) : s.rgbEntry b = some (s.params.rgb[b.toNat]'h) := by
  simp [State.rgbEntry, h]

theorem rgbEntry_eq_none {s : State} {b : Byte} (h : 64 ≤ b.toNat) : s.rgbEntry b = none := by
  simp [State.rgbEntry, h]

/-- A byte has an entry exactly if it is below 0x40. -/
theorem rgbEntry_isSome (s : State) (b : Byte) : (s.rgbEntry b).isSome = decide (b.toNat < 64) := by
  by_cases h : b.toNat < 64
  · simp [rgbEntry_eq_some h, h]
  · simp [rgbEntry_eq_none (Nat.le_of_not_lt h), h]

/-- PIXEL_EMIT that ends in a next state read a byte below 0x40 and wrote its colour. -/
theorem execPixelEmit_eq_next {s t : State} :
    execPixelEmit s = .next t ↔
      writeWindow s.scanline s.dot = true ∧
      ∃ b color, s.readByte .generic s.pa = some b ∧ s.rgbEntry b = some color ∧
        t = (s.emit (.read .generic s.pa b)).putPixel s.pixelRow s.pixelCol color := by
  unfold execPixelEmit
  cases hw : writeWindow s.scanline s.dot
  · simp
  · simp only [if_true, keepPre_eq_next, memRead_eq_next, true_and]
    constructor
    · rintro ⟨b, hb, h⟩
      unfold emitColor at h
      split at h
      · next color hc =>
        refine ⟨b, color, hb, hc, ?_⟩
        cases h
        rfl
      · simp [raisePalette] at h
    · rintro ⟨b, color, hb, hc, rfl⟩
      refine ⟨b, hb, ?_⟩
      have : (s.emit (.read .generic s.pa b)).rgbEntry b = some color := hc
      simp [emitColor, this, State.pixelRow, State.pixelCol]

end Sys2Proof.Machine
end

