-- ==== Sys2Proof/Laws/Tick.lean ====
section
/-! SUPPORT. The tick, step by step: what each step of 40_scheduler.md R100 does to a state, and the tick's next state as nine
of them in a row. Later proofs cite `tick_eq_next` and the step lemmas and never unfold the map. -/

namespace Sys2Proof.Machine

@[simp] theorem runOps_nil (s : State) : runOps [] s = .next s := rfl

@[simp] theorem runOps_cons (i : Instr) (rest : List Instr) (s : State) :
    runOps (i :: rest) s = andThen (microExec i s) (runOps rest) := rfl

@[simp] theorem andThen_runOps_nil (o : Out) : andThen o (runOps []) = o := by cases o <;> rfl

theorem runOps_single (i : Instr) (s : State) : runOps [i] s = microExec i s := andThen_runOps_nil _

/-! ## The condition column of 30_encoding.md R88, one line each -/

@[simp] theorem selected_tickMask (c : TickCtx) : Instr.selected .tickMask c = c.liveMask := rfl
@[simp] theorem selected_snapshot (c : TickCtx) : Instr.selected .snapshot c = true := rfl
@[simp] theorem selected_vblSet (c : TickCtx) : Instr.selected .vblSet c = (c.scanline == 241 && c.dot == 1) := rfl
@[simp] theorem selected_irqRaise (c : TickCtx) : Instr.selected .irqRaise c = (c.scanline == 241 && c.dot == 1 && c.e.irqEnable) := rfl
@[simp] theorem selected_vblClear (c : TickCtx) : Instr.selected .vblClear c = (c.scanline == 261 && c.dot == 1) := rfl
@[simp] theorem selected_statusWrite (c : TickCtx) : Instr.selected .statusWrite c = (c.scanline == 261 && c.dot == 1) := rfl
@[simp] theorem selected_srReload (c : TickCtx) : Instr.selected .srReload c = (c.gate && reloadDot c.dot) := rfl
@[simp] theorem selected_atRecompute (c : TickCtx) : Instr.selected .atRecompute c = (c.gate && reloadDot c.dot) := rfl
@[simp] theorem selected_fetchStall257 (c : TickCtx) : Instr.selected .fetchStall257 c = (c.gate && c.dot == 257) := rfl
@[simp] theorem selected_fetchIdle (c : TickCtx) : Instr.selected .fetchIdle c = (c.gate && c.dot != 257 && decide (0 < c.idle)) := rfl
@[simp] theorem selected_fetchNtDummy (c : TickCtx) : Instr.selected .fetchNtDummy c = (c.gate && c.dot != 257 && c.idle == 0 && !fetchWindow c.dot) := rfl
@[simp] theorem selected_fetchNt (c : TickCtx) : Instr.selected .fetchNt c = (c.gate && c.idle == 0 && fetchWindow c.dot && c.stage == .NT) := rfl
@[simp] theorem selected_fetchAt (c : TickCtx) : Instr.selected .fetchAt c = (c.gate && c.idle == 0 && fetchWindow c.dot && c.stage == .AT) := rfl
@[simp] theorem selected_fetchPtlo (c : TickCtx) : Instr.selected .fetchPtlo c = (c.gate && c.idle == 0 && fetchWindow c.dot && c.stage == .PTLO) := rfl
@[simp] theorem selected_fetchPthiVis (c : TickCtx) : Instr.selected .fetchPthiVis c = (c.gate && c.idle == 0 && fetchWindow c.dot && c.stage == .PTHI && c.scanline != 261) := rfl
@[simp] theorem selected_fetchPthiPre (c : TickCtx) : Instr.selected .fetchPthiPre c = (c.gate && c.idle == 0 && fetchWindow c.dot && c.stage == .PTHI && c.scanline == 261) := rfl
@[simp] theorem selected_incFineY (c : TickCtx) : Instr.selected .incFineY c = (c.gate && c.dot == 256) := rfl
@[simp] theorem selected_copyH (c : TickCtx) : Instr.selected .copyH c = (c.gate && c.dot == 257) := rfl
@[simp] theorem selected_cpReset (c : TickCtx) : Instr.selected .cpReset c = (c.gate && c.dot == 257) := rfl
@[simp] theorem selected_copyV (c : TickCtx) : Instr.selected .copyV c = (c.gate && verticalCopy c.scanline c.dot) := rfl
@[simp] theorem selected_incCoarseXVis (c : TickCtx) : Instr.selected .incCoarseXVis c = (c.gate && c.dot == c.cpVis) := rfl
@[simp] theorem selected_incCoarseXPre (c : TickCtx) : Instr.selected .incCoarseXPre c = (c.gate && c.dot == c.cpPre) := rfl
@[simp] theorem selected_srShift (c : TickCtx) : Instr.selected .srShift c = (c.gate && shiftWindow c.dot) := rfl
@[simp] theorem selected_pixelBg (c : TickCtx) : Instr.selected .pixelBg c = (c.pixelGate && c.e.backgroundEnabled) := rfl
@[simp] theorem selected_pixelForcedV (c : TickCtx) : Instr.selected .pixelForcedV c = (c.pixelGate && !c.e.backgroundEnabled && palettePointed c.v) := rfl
@[simp] theorem selected_pixelForcedDefault (c : TickCtx) : Instr.selected .pixelForcedDefault c = (c.pixelGate && !c.e.backgroundEnabled && !palettePointed c.v) := rfl
@[simp] theorem selected_pixelEmit (c : TickCtx) : Instr.selected .pixelEmit c = c.pixelGate := rfl
@[simp] theorem selected_counterAdvance (c : TickCtx) : Instr.selected .counterAdvance c = true := rfl
@[simp] theorem selected_parityToggle (c : TickCtx) : Instr.selected .parityToggle c = (c.scanline == 261 && c.dot == 340) := rfl

/-! ## The context of a state -/

@[simp] theorem tickCtx_scanline (s : State) (sl d : Nat) : (s.tickCtx sl d).scanline = sl := rfl
@[simp] theorem tickCtx_dot (s : State) (sl d : Nat) : (s.tickCtx sl d).dot = d := rfl
@[simp] theorem tickCtx_liveMask (s : State) (sl d : Nat) : (s.tickCtx sl d).liveMask = s.params.liveMask := rfl
@[simp] theorem tickCtx_e (s : State) (sl d : Nat) : (s.tickCtx sl d).e = s.snap := rfl
@[simp] theorem tickCtx_vblank (s : State) (sl d : Nat) : (s.tickCtx sl d).vblank = s.vblank := rfl
@[simp] theorem tickCtx_stage (s : State) (sl d : Nat) : (s.tickCtx sl d).stage = s.stage := rfl
@[simp] theorem tickCtx_idle (s : State) (sl d : Nat) : (s.tickCtx sl d).idle = s.idle := rfl
@[simp] theorem tickCtx_cpVis (s : State) (sl d : Nat) : (s.tickCtx sl d).cpVis = s.cpVis := rfl
@[simp] theorem tickCtx_cpPre (s : State) (sl d : Nat) : (s.tickCtx sl d).cpPre = s.cpPre := rfl
@[simp] theorem tickCtx_v (s : State) (sl d : Nat) : (s.tickCtx sl d).v = s.v := rfl
@[simp] theorem tickCtx_pixelGate (s : State) (sl d : Nat) :
    (s.tickCtx sl d).pixelGate = (!s.vblank && writeWindow sl d) := rfl

/-- One step of a tick that started at `(sl, d)`. -/
def stepOf (st : TickStep) (sl d : Nat) (s : State) : Out := runOps (issued st (s.tickCtx sl d)) s

theorem runSteps_cons (sl d : Nat) (st : TickStep) (rest : List TickStep) (s : State) :
    runSteps sl d (st :: rest) s = andThen (stepOf st sl d s) (runSteps sl d rest) := rfl

/-- The gate `G` on a state inside a tick. -/
def gateAt (sl d : Nat) (s : State) : Bool := (s.tickCtx sl d).gate

theorem gateAt_eq (sl d : Nat) (s : State) :
    gateAt sl d s = (!s.vblank && s.snap.renderingEnabled && renderLine sl) := rfl

/-- The palette address of a pixel: the first branch that holds (44_pixel_renderer.md R190). -/
def pixelAddr (s : State) : Addr :=
  if s.snap.backgroundEnabled then palAddr (muxIndex s.slo s.shi s.alo s.ahi s.snap.fineX)
  else if palettePointed s.v then busAddr s.v
  else paletteBase

/-- Step 1. -/
theorem mask_step (sl d : Nat) (s : State) :
    stepOf .mask sl d s = .next (if s.params.liveMask then { s with v := s.v &&& 0x3FFF#15 } else s) := by
  cases h : s.params.liveMask <;> simp [stepOf, issued, TickStep.lines, h, microExec, execTickMask]

/-- Step 2. -/
theorem sample_step (sl d : Nat) (s : State) : stepOf .sample sl d s = .next { s with snap := s.ext } := rfl

/-- Step 3. -/
theorem vblank_step (sl d : Nat) (s : State) :
    stepOf .vblankCheck sl d s =
      if sl = 241 ∧ d = 1 then .next s.setVblank.raiseIrq
      else if sl = 261 ∧ d = 1 then execStatusWrite s.clearFlags
      else .next s := by
  by_cases h1 : sl = 241 ∧ d = 1
  · obtain ⟨rfl, rfl⟩ := h1
    cases h : s.snap.irqEnable <;>
      simp [stepOf, issued, TickStep.lines, h, microExec, execVblSet, execIrqRaise, State.raiseIrq]
  · by_cases h2 : sl = 261 ∧ d = 1
    · obtain ⟨rfl, rfl⟩ := h2
      simp [stepOf, issued, TickStep.lines, microExec, execVblClear]
    · have e1 : (sl == 241 && d == 1) = false := by simpa using h1
      have e2 : (sl == 261 && d == 1) = false := by simpa using h2
      simp [stepOf, issued, TickStep.lines, h1, h2, e1, e2]

/-- Step 5a. -/
theorem reload_step (sl d : Nat) (s : State) :
    stepOf .reload sl d s =
      if gateAt sl d s && reloadDot d then andThen (execSrReload s) execAtRecompute else .next s := by
  unfold gateAt
  cases h : ((s.tickCtx sl d).gate && reloadDot d)
  · simp [stepOf, issued, TickStep.lines, h]
  · simp only [stepOf, issued, TickStep.lines, List.filter_cons, List.filter_nil, selected_srReload, tickCtx_dot,
      selected_atRecompute, h, if_true]
    rfl

/-- Step 5d. -/
theorem shift_step (sl d : Nat) (s : State) :
    stepOf .shift sl d s = if gateAt sl d s && shiftWindow d then execSrShift s else .next s := by
  unfold gateAt
  cases h : ((s.tickCtx sl d).gate && shiftWindow d) <;>
    simp [stepOf, issued, TickStep.lines, h, microExec]

/-- Step 5b: the first condition that holds. -/
theorem fetch_step (sl d : Nat) (s : State) :
    stepOf .fetch sl d s =
      if !gateAt sl d s then .next s
      else if d = 257 then execFetchStall257 s
      else if 0 < s.idle then execFetchIdle s
      else if !fetchWindow d then execFetchNtDummy s
      else match s.stage with
        | .NT => execFetchNt s
        | .AT => execFetchAt s
        | .PTLO => execFetchPtlo s
        | .PTHI => if sl = 261 then execFetchPthiPre s else execFetchPthiVis s := by
  unfold gateAt
  cases hg : (s.tickCtx sl d).gate
  · simp [stepOf, issued, TickStep.lines, firstSelected, hg]
  · by_cases hd : d = 257
    · subst hd
      simp [stepOf, issued, TickStep.lines, firstSelected, hg, microExec]
    · have hd' : (d == 257) = false := by simpa using hd
      by_cases hi : 0 < s.idle
      · simp [stepOf, issued, TickStep.lines, firstSelected, hg, hd, hd', hi, bne, microExec]
      · have hi0 : s.idle = 0 := by omega
        cases hw : fetchWindow d
        · simp [stepOf, issued, TickStep.lines, firstSelected, hg, hd, hd', hi0, hw, bne, microExec]
        · cases hs : s.stage
          case PTHI =>
            by_cases h261 : sl = 261
            · subst h261
              simp [stepOf, issued, TickStep.lines, firstSelected, hg, hd, hd', hi0, hw, hs, bne, microExec]
            · have h261' : (sl == 261) = false := by simpa using h261
              simp [stepOf, issued, TickStep.lines, firstSelected, hg, hd, hd', hi0, hw, hs, h261, h261', bne, microExec]
          all_goals
            simp [stepOf, issued, TickStep.lines, firstSelected, hg, hd, hd', hi0, hw, hs, bne, microExec]

/-- Step 5c: the priority of 41_address_pathway.md R127. -/
theorem address_step (sl d : Nat) (s : State) :
    stepOf .address sl d s =
      if !gateAt sl d s then .next s
      else if d = 256 then execIncFineY s
      else if d = 257 then andThen (execCopyH s) execCpReset
      else if verticalCopy sl d then execCopyV s
      else if d = s.cpVis then execIncCoarseXVis s
      else if d = s.cpPre then execIncCoarseXPre s
      else .next s := by
  unfold gateAt
  cases hg : (s.tickCtx sl d).gate
  · simp [stepOf, issued, TickStep.lines, firstSelected, hg]
  · by_cases h1 : d = 256
    · subst h1
      simp [stepOf, issued, TickStep.lines, firstSelected, hg, microExec]
    · have h1' : (d == 256) = false := by simpa using h1
      by_cases h2 : d = 257
      · subst h2
        simp only [stepOf, issued, TickStep.lines, firstSelected, List.find?_cons, selected_incFineY, selected_copyH,
          tickCtx_dot, hg, Nat.reduceBEq, Bool.and_false, Bool.true_and, Bool.not_true, Bool.false_eq_true, if_false,
          h1, if_true]
        rfl
      · have h2' : (d == 257) = false := by simpa using h2
        cases h3 : verticalCopy sl d
        · by_cases h4 : d = s.cpVis
          · have h4' : (d == s.cpVis) = true := by simpa using h4
            have h1'' : s.cpVis ≠ 256 := h4 ▸ h1
            have h2'' : s.cpVis ≠ 257 := h4 ▸ h2
            simp only [stepOf, issued, TickStep.lines, firstSelected, List.find?_cons, selected_incFineY, selected_copyH,
              selected_copyV, selected_incCoarseXVis, tickCtx_dot, tickCtx_scanline, tickCtx_cpVis, hg, h1', h2', h3, h4']
            simp [h1, h2, if_pos h4, microExec]
          · have h4' : (d == s.cpVis) = false := by simpa using h4
            by_cases h5 : d = s.cpPre
            · have h5' : (d == s.cpPre) = true := by simpa using h5
              simp only [stepOf, issued, TickStep.lines, firstSelected, List.find?_cons, selected_incFineY, selected_copyH,
                selected_copyV, selected_incCoarseXVis, selected_incCoarseXPre, tickCtx_dot, tickCtx_scanline,
                tickCtx_cpVis, tickCtx_cpPre, hg, h1', h2', h3, h4', h5']
              simp [h1, h2, h4, if_pos h5, microExec]
            · have h5' : (d == s.cpPre) = false := by simpa using h5
              simp [stepOf, issued, TickStep.lines, firstSelected, hg, h1, h2, h3, h4, h5, h1', h2', h4', h5']
        · simp [stepOf, issued, TickStep.lines, firstSelected, hg, h1, h2, h3, h1', h2', microExec]

/-- Step 6: one of the three address rows, then PIXEL_EMIT. -/
theorem pixel_step (sl d : Nat) (s : State) :
    stepOf .pixel sl d s =
      if !s.vblank && writeWindow sl d then execPixelEmit { s with pa := pixelAddr s } else .next s := by
  cases hp : (!s.vblank && writeWindow sl d)
  · simp [stepOf, issued, TickStep.lines, hp]
  · cases hb : s.snap.backgroundEnabled
    · cases hv : palettePointed s.v <;>
        simp [stepOf, issued, TickStep.lines, hp, hb, hv, microExec, execPixelForcedDefault,
          execPixelForcedV, pixelAddr]
    · simp [stepOf, issued, TickStep.lines, hp, hb, microExec, execPixelBg, pixelAddr]

/-- The counters after COUNTER_ADVANCE. -/
def State.countUp (s : State) : State := { s with dot := nextDot s.dot, scanline := nextScanline s.scanline s.dot }

theorem execCounterAdvance_eq (s : State) : execCounterAdvance s = .next s.countUp := by
  unfold execCounterAdvance State.countUp nextDot nextScanline lastDot linesPerFrame
  split <;> rfl

/-- Step 7. -/
theorem counter_step (sl d : Nat) (s : State) :
    stepOf .counter sl d s =
      .next (if sl = 261 ∧ d = 340 then { s.countUp with frameParity := s.frameParity ^^^ 1#1 } else s.countUp) := by
  by_cases h : sl = 261 ∧ d = 340
  · obtain ⟨rfl, rfl⟩ := h
    have hi : issued .counter (s.tickCtx 261 340) = [.counterAdvance, .parityToggle] := rfl
    simp [stepOf, hi, microExec, execCounterAdvance_eq, execParityToggle, State.countUp]
  · have h' : (sl == 261 && d == 340) = false := by simpa using h
    simp [stepOf, issued, TickStep.lines, List.filter_cons, h, h', microExec, execCounterAdvance_eq]

/-! ## The whole tick -/

/-- Steps 1 and 2 together with the empty event list: the state the VBlank check meets. -/
def State.sampled (s : State) : State :=
  { s with
    events := []
    v := if s.params.liveMask then s.v &&& 0x3FFF#15 else s.v
    snap := s.ext }

theorem sampled_eq (s : State) (sl d : Nat) :
    andThen (stepOf .mask sl d s.beginTick) (stepOf .sample sl d) = .next s.sampled := by
  rw [mask_step, andThen_next, sample_step]
  cases h : s.params.liveMask <;> simp [State.sampled, h, State.beginTick]

/-- THE TICK: its next state is what the steps give one after the other. -/
theorem tick_eq_next {s t : State} :
    execAdvance s = .next t ↔
      ∃ s3 s5a s5b s5c s5d s6,
        stepOf .vblankCheck s.scanline s.dot s.sampled = .next s3 ∧
        stepOf .reload s.scanline s.dot s3 = .next s5a ∧
        stepOf .fetch s.scanline s.dot s5a = .next s5b ∧
        stepOf .address s.scanline s.dot s5b = .next s5c ∧
        stepOf .shift s.scanline s.dot s5c = .next s5d ∧
        stepOf .pixel s.scanline s.dot s5d = .next s6 ∧
        stepOf .counter s.scanline s.dot s6 = .next t := by
  unfold execAdvance
  simp only [TickStep.order, runSteps_cons, keepPre_eq_next]
  have hs (k : State → Out) : andThen (stepOf .mask s.scanline s.dot s.beginTick)
      (fun x => andThen (stepOf .sample s.scanline s.dot x) k) = k s.sampled := by
    rw [← andThen_assoc, sampled_eq, andThen_next]
  have hr : runSteps s.scanline s.dot
      [.sample, .vblankCheck, .reload, .fetch, .address, .shift, .pixel, .counter] =
      fun x => andThen (stepOf .sample s.scanline s.dot x)
        (runSteps s.scanline s.dot [.vblankCheck, .reload, .fetch, .address, .shift, .pixel, .counter]) := rfl
  rw [hr, hs]
  simp only [andThen_eq_next, runSteps, Host.Outcome.next.injEq]
  constructor
  · rintro ⟨s3, h3, s5a, ha, s5b, hb, s5c, hc, s5d, hd, s6, h6, t', h7, rfl⟩
    exact ⟨s3, s5a, s5b, s5c, s5d, s6, h3, ha, hb, hc, hd, h6, h7⟩
  · rintro ⟨s3, s5a, s5b, s5c, s5d, s6, h3, ha, hb, hc, hd, h6, h7⟩
    exact ⟨s3, h3, s5a, ha, s5b, hb, s5c, hc, s5d, hd, s6, h6, t, h7, rfl⟩

/-! ## What each step leaves alone

Each lemma says the next state is the state before with the named fields replaced. -/

theorem vblank_frame {sl d : Nat} {s t : State} (h : stepOf .vblankCheck sl d s = .next t) :
    t = { s with
      vblank := t.vblank, irq := t.irq, spriteZeroHit := t.spriteZeroHit, spriteOverflow := t.spriteOverflow
      statusByte := t.statusByte, events := t.events } := by
  rw [vblank_step] at h
  split at h
  · cases h
    cases hi : s.snap.irqEnable <;> simp [State.setVblank, State.raiseIrq, State.emit, hi]
  · split at h
    · unfold execStatusWrite at h
      rcases statusWrite_cases clearedFlagsByte s.clearFlags with ⟨_, he⟩ | ⟨_, he⟩ <;> rw [he] at h <;> cases h
      rfl
    · cases h
      rfl

theorem reload_frame {sl d : Nat} {s t : State} (h : stepOf .reload sl d s = .next t) :
    t = { s with slo := t.slo, shi := t.shi, alo := t.alo, ahi := t.ahi } := by
  rw [reload_step] at h
  split at h <;> cases h <;> rfl

/-- A fetch's events: none, or one read. -/
theorem fetch_frame {sl d : Nat} {s t : State} (h : stepOf .fetch sl d s = .next t) :
    t = { s with
      ntLatch := t.ntLatch, atLatch := t.atLatch, ptLoLatch := t.ptLoLatch, ptHiLatch := t.ptHiLatch
      ptBase := t.ptBase, stage := t.stage, idle := t.idle, events := t.events } ∧
    (t.events = s.events ∨ ∃ p a b, s.readByte p a = some b ∧ t.events = s.events ++ [.read p a b]) := by
  rw [fetch_step] at h
  split at h
  · cases h
    exact ⟨rfl, .inl rfl⟩
  split at h
  · cases h
    exact ⟨rfl, .inl rfl⟩
  split at h
  · cases h
    exact ⟨rfl, .inl rfl⟩
  split at h
  · obtain ⟨b, hb, hk⟩ := memRead_eq_next.1 h
    cases hk
    exact ⟨rfl, .inr ⟨_, _, b, hb, rfl⟩⟩
  split at h
  case h_4 =>
    split at h <;>
    · obtain ⟨b, hb, hk⟩ := memRead_eq_next.1 h
      cases hk
      exact ⟨rfl, .inr ⟨_, _, b, hb, rfl⟩⟩
  all_goals
    obtain ⟨b, hb, hk⟩ := memRead_eq_next.1 h
    cases hk
    exact ⟨rfl, .inr ⟨_, _, b, hb, rfl⟩⟩

theorem address_frame {sl d : Nat} {s t : State} (h : stepOf .address sl d s = .next t) :
    t = { s with v := t.v, cpVis := t.cpVis, cpPre := t.cpPre } := by
  rw [address_step] at h
  repeat' split at h
  all_goals cases h; rfl

theorem shift_frame {sl d : Nat} {s t : State} (h : stepOf .shift sl d s = .next t) :
    t = { s with slo := t.slo, shi := t.shi } := by
  rw [shift_step] at h
  split at h <;> cases h <;> rfl

theorem pixel_frame {sl d : Nat} {s t : State} (h : stepOf .pixel sl d s = .next t) :
    t = { s with pa := t.pa, fb := t.fb, events := t.events } := by
  rw [pixel_step] at h
  split at h
  · obtain ⟨_, b, color, _, _, rfl⟩ := execPixelEmit_eq_next.1 h
    rfl
  · cases h
    rfl

theorem counter_frame {sl d : Nat} {s t : State} (h : stepOf .counter sl d s = .next t) :
    t = { s with dot := nextDot s.dot, scanline := nextScanline s.scanline s.dot, frameParity := t.frameParity } := by
  rw [counter_step] at h
  cases h
  split <;> rfl

/-- A tick changes neither the host's inputs, nor the memories, nor the parameters, nor the pending
moves; it advances the counters (40_scheduler.md R107, 20_memory.md R53). -/
theorem tick_frame {s t : State} (h : execAdvance s = .next t) :
    t.ext = s.ext ∧ t.gen = s.gen ∧ t.raw = s.raw ∧ t.statusAccepts = s.statusAccepts ∧ t.params = s.params ∧
    t.pending = s.pending ∧ t.dot = nextDot s.dot ∧ t.scanline = nextScanline s.scanline s.dot := by
  obtain ⟨s3, s5a, s5b, s5c, s5d, s6, h3, ha, hb, hc, hd, h6, h7⟩ := tick_eq_next.1 h
  have e3 := vblank_frame h3
  have ea := reload_frame ha
  have eb := (fetch_frame hb).1
  have ec := address_frame hc
  have ed := shift_frame hd
  have e6 := pixel_frame h6
  have e7 := counter_frame h7
  refine ⟨?_, ?_, ?_, ?_, ?_, ?_, ?_, ?_⟩ <;> rw [e7, e6, ed, ec, eb, ea, e3] <;> rfl

/-! ## What each step does to the fields it writes -/

/-- What the VBlank check leaves in the fields it may write (45_vblank.md R210-R214). -/
theorem check_cases {s s3 : State} (h : stepOf .vblankCheck s.scanline s.dot s.sampled = .next s3) :
    s3.vblank = s.vblankAfterCheck ∧
    s3.irq = (s.irq || (s.scanline == 241 && s.dot == 1 && s.ext.irqEnable)) ∧
    s3.spriteZeroHit = (if s.scanline = 261 ∧ s.dot = 1 then false else s.spriteZeroHit) ∧
    s3.spriteOverflow = (if s.scanline = 261 ∧ s.dot = 1 then false else s.spriteOverflow) ∧
    s3.statusByte = (if s.scanline = 261 ∧ s.dot = 1 then 0x00#8 else s.statusByte) ∧
    s3.events = (if s.scanline = 241 ∧ s.dot = 1 then [.vblankEdge]
      else if s.scanline = 261 ∧ s.dot = 1 then [.write s.params.statusAddr 0x00#8 s.params.token] else []) := by
  rw [vblank_step] at h
  by_cases h1 : s.scanline = 241 ∧ s.dot = 1
  · rw [if_pos h1] at h
    cases h
    simp only [State.vblankAfterCheck, h1.1, h1.2]
    cases hi : s.ext.irqEnable <;> simp [State.setVblank, State.raiseIrq, State.sampled, State.emit, hi]
  · have e1 : (s.scanline == 241 && s.dot == 1) = false := by simpa using h1
    rw [if_neg h1] at h
    by_cases h2 : s.scanline = 261 ∧ s.dot = 1
    · rw [if_pos h2] at h
      unfold execStatusWrite at h
      rcases statusWrite_cases clearedFlagsByte s.sampled.clearFlags with ⟨_, he⟩ | ⟨_, he⟩ <;> rw [he] at h <;> cases h
      simp only [if_neg h1, if_pos h2, State.vblankAfterCheck, e1]
      simp [State.clearFlags, State.sampled, State.emit, clearedFlagsByte]
    · rw [if_neg h2] at h
      cases h
      simp only [if_neg h1, if_neg h2, State.vblankAfterCheck, e1]
      simp [State.sampled]

/-- What the pixel step does: nothing outside the pixel gate; inside it, one palette read that is
answered with a byte below 0x40, and one cell (44_pixel_renderer.md R194, R195). -/
theorem pixel_cases {sl d : Nat} {s t : State} (h : stepOf .pixel sl d s = .next t) :
    ((!s.vblank && writeWindow sl d) = false ∧ t = s) ∨
    ((!s.vblank && writeWindow sl d) = true ∧ writeWindow s.scanline s.dot = true ∧
      ∃ b color, s.readByte .generic (pixelAddr s) = some b ∧ s.rgbEntry b = some color ∧
        t = (({ s with pa := pixelAddr s } : State).emit (.read .generic (pixelAddr s) b)).putPixel
          s.pixelRow s.pixelCol color) := by
  rw [pixel_step] at h
  split at h
  · next hp =>
    obtain ⟨hw, b, color, hb, hc, rfl⟩ := execPixelEmit_eq_next.1 h
    exact .inr ⟨hp, hw, b, color, hb, hc, rfl⟩
  · next hp =>
    cases h
    exact .inl ⟨by simpa using hp, rfl⟩

/-- Every palette address is at or above 0x3F00 (20_memory.md R56). -/
theorem pixelAddr_range (s : State) : 0x3F00 ≤ (pixelAddr s).toNat := by
  unfold pixelAddr
  split
  · simp only [palAddr, paletteBase]
    generalize muxIndex s.slo s.shi s.alo s.ahi s.snap.fineX = i
    revert i
    decide
  · split
    · next h =>
      simp only [palettePointed, decide_eq_true_eq] at h
      have e : (s.v &&& 0x3FFF#15).toNat = (busAddr s.v).toNat := by
        simp only [busAddr, BitVec.toNat_and, BitVec.toNat_ofNat, BitVec.toNat_setWidth]
        exact Nat.and_two_pow_sub_one_eq_mod _ 14
      omega
    · decide

/-- The attribute registers after a reload are replicates (10_state.md R25). -/
theorem replicateBit_cases (b : Bool) : replicateBit b = 0x00#8 ∨ replicateBit b = 0xFF#8 := by
  cases b
  · exact .inl rfl
  · exact .inr rfl

/-! ## Where a step faults -/

/-- The VBlank check faults only on a status write at (261, 1) that is not accepted. -/
theorem vblank_fault {sl d : Nat} {s : State} {f : Fault} (h : stepOf .vblankCheck sl d s = .fault f) :
    sl = 261 ∧ d = 1 ∧ s.statusAccepts = false ∧
    f = .memoryContract s.scanline s.dot (.write s.params.statusAddr 0x00#8 s.params.token) s.events s.clearFlags := by
  rw [vblank_step] at h
  split at h
  · cases h
  · split at h
    · next h2 =>
      unfold execStatusWrite at h
      rcases statusWrite_cases clearedFlagsByte s.clearFlags with ⟨ha, he⟩ | ⟨ha, he⟩ <;> rw [he] at h <;> cases h
      exact ⟨h2.1, h2.2, ha, rfl⟩
    · cases h

/-- A fetch faults only on a read that is not answered. -/
theorem fetch_fault {sl d : Nat} {s : State} {f : Fault} (h : stepOf .fetch sl d s = .fault f) :
    ∃ p a, s.readByte p a = none ∧ f = .memoryContract s.scanline s.dot (.read p a) s.events s := by
  have reads (p : Port) (a : Addr) (k : Byte → State → State)
      (hf : (memRead p a s fun b s' => .next (k b s')) = .fault f) :
      ∃ p a, s.readByte p a = none ∧ f = .memoryContract s.scanline s.dot (.read p a) s.events s := by
    rcases memRead_eq_fault.1 hf with ⟨hn, he⟩ | ⟨b, _, hk⟩
    · exact ⟨p, a, hn, he⟩
    · cases hk
  rw [fetch_step] at h
  split at h
  · cases h
  split at h
  · cases h
  split at h
  · cases h
  split at h
  · exact reads _ _ _ h
  split at h
  case h_4 => split at h <;> exact reads _ _ _ h
  all_goals exact reads _ _ _ h

/-- The pixel step faults only on a palette read that is not answered or is answered with 0x40 or more. -/
theorem pixel_fault {sl d : Nat} {s : State} {f : Fault} (h : stepOf .pixel sl d s = .fault f) :
    (s.readByte .generic (pixelAddr s) = none ∧
      f = .memoryContract s.scanline s.dot (.read .generic (pixelAddr s)) s.events { s with pa := pixelAddr s }) ∨
    ∃ b, s.readByte .generic (pixelAddr s) = some b ∧ 64 ≤ b.toNat ∧
      f = .paletteValueOutOfRange s.scanline s.dot (pixelAddr s) b (s.events ++ [.read .generic (pixelAddr s) b])
        { s with pa := pixelAddr s } := by
  rw [pixel_step] at h
  split at h
  · unfold execPixelEmit at h
    split at h
    · obtain ⟨g, hg, rfl⟩ := keepPre_eq_fault.1 h
      rcases memRead_eq_fault.1 hg with ⟨hn, rfl⟩ | ⟨b, hb, hk⟩
      · exact .inl ⟨hn, rfl⟩
      · refine .inr ⟨b, hb, ?_⟩
        unfold emitColor at hk
        split at hk
        · cases hk
        · next hc =>
          cases hk
          refine ⟨?_, rfl⟩
          by_contra hlt
          rw [rgbEntry_eq_some (Nat.lt_of_not_le hlt)] at hc
          cases hc
    · cases h
  · cases h

/-- The tick's fault is the first fault of its steps, with the state before the tick. -/
theorem tick_eq_fault {s : State} {f : Fault} (h : execAdvance s = .fault f) :
    ∃ g, f = g.withPre s ∧
      (stepOf .vblankCheck s.scanline s.dot s.sampled = .fault g ∨
       ∃ s3 s5a, stepOf .vblankCheck s.scanline s.dot s.sampled = .next s3 ∧
        stepOf .reload s.scanline s.dot s3 = .next s5a ∧
        (stepOf .fetch s.scanline s.dot s5a = .fault g ∨
         ∃ s5b s5c s5d, stepOf .fetch s.scanline s.dot s5a = .next s5b ∧
          stepOf .address s.scanline s.dot s5b = .next s5c ∧
          stepOf .shift s.scanline s.dot s5c = .next s5d ∧
          stepOf .pixel s.scanline s.dot s5d = .fault g)) := by
  unfold execAdvance at h
  obtain ⟨g, hg, rfl⟩ := keepPre_eq_fault.1 h
  refine ⟨g, rfl, ?_⟩
  have hr : runSteps s.scanline s.dot TickStep.order s.beginTick =
      runSteps s.scanline s.dot [.vblankCheck, .reload, .fetch, .address, .shift, .pixel, .counter] s.sampled := by
    simp only [TickStep.order]
    rw [runSteps_cons, show runSteps s.scanline s.dot
      [.sample, .vblankCheck, .reload, .fetch, .address, .shift, .pixel, .counter] =
      fun x => andThen (stepOf .sample s.scanline s.dot x)
        (runSteps s.scanline s.dot [.vblankCheck, .reload, .fetch, .address, .shift, .pixel, .counter]) from rfl,
      ← andThen_assoc, sampled_eq, andThen_next]
  rw [hr] at hg
  have reloadNext (x : State) : ∃ y, stepOf .reload s.scanline s.dot x = .next y := by
    rw [reload_step]
    split <;> exact ⟨_, rfl⟩
  have addressNext (x : State) : ∃ y, stepOf .address s.scanline s.dot x = .next y := by
    rw [address_step]
    repeat' split
    all_goals exact ⟨_, rfl⟩
  have shiftNext (x : State) : ∃ y, stepOf .shift s.scanline s.dot x = .next y := by
    rw [shift_step]
    split <;> exact ⟨_, rfl⟩
  rw [runSteps_cons] at hg
  rcases andThen_eq_fault.1 hg with h3 | ⟨s3, h3, hg⟩
  · exact .inl h3
  · obtain ⟨s5a, ha⟩ := reloadNext s3
    refine .inr ⟨s3, s5a, h3, ha, ?_⟩
    rw [runSteps_cons, ha, andThen_next, runSteps_cons] at hg
    rcases andThen_eq_fault.1 hg with hb | ⟨s5b, hb, hg⟩
    · exact .inl hb
    · obtain ⟨s5c, hc⟩ := addressNext s5b
      obtain ⟨s5d, hd⟩ := shiftNext s5c
      refine .inr ⟨s5b, s5c, s5d, hb, hc, hd, ?_⟩
      rw [runSteps_cons, hc, andThen_next, runSteps_cons, hd, andThen_next, runSteps_cons] at hg
      rcases andThen_eq_fault.1 hg with h6 | ⟨s6, h6, hg⟩
      · exact h6
      · rw [runSteps_cons, counter_step, andThen_next] at hg
        cases hg

/-! ## What a step issues -/

/-- An issued row is one of its step's lines, or CP_RESET with COPY_H, and its condition holds. -/
theorem issued_mem {st : TickStep} {c : TickCtx} {i : Instr} (h : i ∈ issued st c) :
    (i ∈ st.lines ∨ i = .cpReset) ∧ i.selected c = true := by
  cases st <;> simp only [issued] at h
  case fetch =>
    rw [Option.mem_toList] at h
    exact ⟨.inl (List.mem_of_find?_eq_some h), by simpa using List.find?_some h⟩
  case address =>
    split at h
    · cases h
    · next hh =>
      have := List.find?_some hh
      simp only [List.mem_cons, List.not_mem_nil, or_false] at h
      rcases h with rfl | rfl
      · exact ⟨.inl (by decide), this⟩
      · exact ⟨.inr rfl, this⟩
    · next hh =>
      simp only [List.mem_singleton] at h
      subst h
      exact ⟨.inl (List.mem_of_find?_eq_some hh), by simpa using List.find?_some hh⟩
  all_goals
    obtain ⟨a, b⟩ := List.mem_filter.1 h
    exact ⟨.inl a, b⟩

/-- On a micro-operation the tick runs the same meaning as `exec`. -/
theorem microExec_eq_exec {i : Instr} (h : i.isHostMove = false) (s : State) : microExec i s = exec i s := by
  cases i <;> first | rfl | contradiction

end Sys2Proof.Machine
end

