-- ==== Sys2Proof/Tests/Slice0.lean ====
section
/-! SUPPORT. Tests. The expected values are those of spec/95_test_vectors.md (V-…, S…), of a rule's own example (R…), or written
out by hand from the encodings of 30_encoding.md; none is the model's own answer. The last part gives, for each statement with
hypotheses, a concrete state and operands that meet them. -/

namespace Sys2Proof.Tests

open Sys2Proof Sys2Proof.Machine

/-! ## Small states -/

/-- The stand-in table `b ↦ (b, b, b)` of 95_test_vectors.md. -/
def grey : Vector RGB 64 :=
  ⟨((List.range 64).map fun b => (⟨BitVec.ofNat 8 b, BitVec.ofNat 8 b, BitVec.ofNat 8 b⟩ : RGB)).toArray, by simp⟩

/-- The parameters of 95_test_vectors.md: RAW_FETCH_STAGES = {PTLO, PTHI}, STATUS_ADDR = 0x2002. -/
def vectorParams : Params where
  rgb := grey
  rawStages := .ptloPthi
  statusAddr := 0x2002#14
  token := ⟨0⟩
  liveMask := false

/-- REF_INIT at tick `(s, d)`, no memory. -/
def at_ (s d : Nat) : State := { State.reset with params := vectorParams, scanline := s, dot := d }

/-- The same with background rendering enabled. -/
def lit (s d : Nat) : State := { at_ s d with ext := { noInputs with showBg := true } }

/-- The next state of an outcome that has one. -/
def nextOf : Out → Option State
  | .next s => some s
  | .fault _ => none
  | .refused _ => none

/-- The fault of an outcome that has one, without the state it keeps: its code, tick, address and byte. -/
def faultOf : Out → Option (Nat × Nat × Nat × Option Addr × Option Byte)
  | .next _ => none
  | .refused _ => none
  | .fault (.memoryContract s d (.read _ a) _ _) => some (1, s, d, some a, none)
  | .fault (.memoryContract s d (.write a b _) _ _) => some (1, s, d, some a, some b)
  | .fault (.paletteValueOutOfRange s d a b _ _) => some (2, s, d, some a, some b)

/-- The refusal of an outcome that has one. -/
def refusalOf : Out → Option Refusal
  | .next _ => none
  | .fault _ => none
  | .refused r => some r

/-! ## Well-formedness: one ill-formed term for each check -/

theorem test_wf_refuses_ctrl_naming_no_field : Instr.wellFormed (.hostSetCtrl none none) = false := by decide

theorem test_wf_refuses_mask_naming_no_field : Instr.wellFormed (.hostSetMask none none) = false := by decide

theorem test_wf_refuses_cells_out_of_order :
    Instr.wellFormed (.hostReinit { InitImage.refInit with fb := [⟨1, 0, 0, 0, 0⟩, ⟨0, 5, 0, 0, 0⟩] }) = false ∧
    Instr.wellFormed (.hostReinit { InitImage.refInit with fb := [⟨1, 3, 0, 0, 0⟩, ⟨1, 3, 9, 9, 9⟩] }) = false := by decide

theorem test_wf_accepts_the_rest :
    Instr.wellFormed (.hostSetCtrl none (some true)) = true ∧
    Instr.wellFormed (.hostReinit { InitImage.refInit with fb := [⟨1, 3, 0, 0, 0⟩, ⟨1, 4, 9, 9, 9⟩, ⟨2, 0, 1, 1, 1⟩] }) = true ∧
    Instr.wellFormed .advance = true ∧
    Instr.scriptable (.hostReinit { InitImage.refInit with fb := [⟨1, 3, 0, 0, 0⟩] }) = false := by decide

/-! ## Decoding: script lines (30_encoding.md R91) -/

theorem test_decode_host_lines :
    decode (ascii "SET E.bgPatternSelect = 1") = .ok (.hostSetCtrl (some true) none) ∧
    decode (ascii "SET E.irqEnable = 0") = .ok (.hostSetCtrl none (some false)) ∧
    decode (ascii "SET E.showSpr = 1") = .ok (.hostSetMask none (some true)) ∧
    decode (ascii "SET E.showBg = 0; SET E.showSpr = 1") = .ok (.hostSetMask (some false) (some true)) ∧
    decode (ascii "SET E.t = 0x3BBE") = .ok (.hostSetT 15294) ∧
    decode (ascii "SET E.fineX=3") = .ok (.hostSetFinex 3) ∧
    decode (ascii "POKE raw 16383, 255") = .ok (.hostPoke .raw 0x3FFF#14 0xFF#8) ∧
    decode (ascii "POKE gen 0x3F00, 0x0F") = .ok (.hostPoke .generic 0x3F00#14 0x0F#8) ∧
    decode (ascii "IDLE 1") = .ok (.hostSetIdle 1) ∧
    decode (ascii "CLRIRQ") = .ok .hostClrIrq ∧
    decode (ascii "SPRFLAGS 1 0") = .ok (.hostSetSprflags true false) ∧
    decode (ascii "HOST_OBSERVE") = .ok .hostObserve ∧
    decode (ascii "TICK 1") = .ok .advance := by decide

theorem test_decode_init_lines :
    decode (ascii "INIT") = .ok (.hostReinit InitImage.refInit) ∧
    decode (ascii "INIT scanline=7, dot=0, v=0x7000") =
      .ok (.hostReinit { InitImage.refInit with scanline := 7, v := 0x7000 }) ∧
    decode (ascii "INIT alo=0x5A, vblank=true") = .ok (.hostReinit { InitImage.refInit with alo := 0x5A, vblank := true }) ∧
    decode (ascii "INIT dot=341") = .ok (.hostReinit { InitImage.refInit with dot := 341 }) ∧
    decode (ascii "INIT stage=PTHI, idle=63, cpPre=344") =
      .ok (.hostReinit { InitImage.refInit with stage := .PTHI, idle := 63, cpPre := 344 }) := by decide

theorem test_decode_mnemonics_steps_1_to_5a :
    decode (ascii "TICK_MASK") = .ok .tickMask ∧ decode (ascii "SNAPSHOT") = .ok .snapshot ∧
    decode (ascii "VBL_SET") = .ok .vblSet ∧ decode (ascii "IRQ_RAISE") = .ok .irqRaise ∧
    decode (ascii "VBL_CLEAR") = .ok .vblClear ∧ decode (ascii "STATUS_WRITE") = .ok .statusWrite ∧
    decode (ascii "SR_RELOAD") = .ok .srReload ∧ decode (ascii "AT_RECOMPUTE") = .ok .atRecompute := by decide

theorem test_decode_mnemonics_step_5b :
    decode (ascii "FETCH_STALL_257") = .ok .fetchStall257 ∧ decode (ascii "FETCH_IDLE") = .ok .fetchIdle ∧
    decode (ascii "FETCH_NT_DUMMY") = .ok .fetchNtDummy ∧ decode (ascii "FETCH_NT") = .ok .fetchNt ∧
    decode (ascii "FETCH_AT") = .ok .fetchAt ∧ decode (ascii "FETCH_PTLO") = .ok .fetchPtlo ∧
    decode (ascii "FETCH_PTHI_VIS") = .ok .fetchPthiVis ∧ decode (ascii "FETCH_PTHI_PRE") = .ok .fetchPthiPre := by decide

theorem test_decode_mnemonics_steps_5c_to_7 :
    decode (ascii "INC_FINE_Y") = .ok .incFineY ∧ decode (ascii "COPY_H") = .ok .copyH ∧
    decode (ascii "CP_RESET") = .ok .cpReset ∧ decode (ascii "COPY_V") = .ok .copyV ∧
    decode (ascii "INC_COARSE_X_VIS") = .ok .incCoarseXVis ∧ decode (ascii "INC_COARSE_X_PRE") = .ok .incCoarseXPre ∧
    decode (ascii "SR_SHIFT") = .ok .srShift ∧ decode (ascii "PIXEL_BG") = .ok .pixelBg ∧
    decode (ascii "PIXEL_FORCED_V") = .ok .pixelForcedV ∧
    decode (ascii "PIXEL_FORCED_DEFAULT") = .ok .pixelForcedDefault ∧ decode (ascii "PIXEL_EMIT") = .ok .pixelEmit ∧
    decode (ascii "COUNTER_ADVANCE") = .ok .counterAdvance ∧ decode (ascii "PARITY_TOGGLE") = .ok .parityToggle := by decide

theorem test_decode_rejects_by_name :
    decode (ascii "") = .error .emptyLine ∧ decode (ascii "FETCH") = .error .unknownWord ∧
    decode (ascii "IDLE 0x") = .error .badNumber ∧ decode (ascii "IDLE -1") = .error (.badCharacter 0x2D#8) ∧
    decode (ascii "5") = .error .notALine ∧ decode (ascii "CLRIRQ 1") = .error .badOperands ∧
    decode (ascii "POKE gen 0x4000, 0") = .error .operandOutOfRange ∧
    decode (ascii "SPRFLAGS 2 0") = .error .operandOutOfRange ∧
    decode (ascii "RUNTO 262,0") = .error .coordinatesOutOfRange ∧ decode (ascii "TICK 2") = .error .notOneMove := by decide

theorem test_encode_writes_the_notation :
    encode (.hostPoke .generic 0x3F00#14 0x0F#8) = ascii "POKE gen 16128 , 15" ∧
    encode (.hostSetMask (some true) none) = ascii "SET E.showBg = 1" ∧
    encode .advance = ascii "TICK 1" ∧ encode .fetchPthiPre = ascii "FETCH_PTHI_PRE" := by decide

/-- A script with a comment, `TICK n` and `RUNTO`: (0, 339) to (1, 1) is three ticks. -/
theorem test_script_expands :
    (decodeScript (ascii "INIT dot=339 -- near the end\n\nTICK 1\nRUNTO 1,1")).toOption.map (expandScript 5 5) =
      some (.ok [.hostReinit { InitImage.refInit with dot := 339 }, .advance, .advance, .advance]) := by decide

/-! ## Decoding: selector words, `scanline[8:0] ‖ dot[8:0]` written out bit by bit (R72) -/

/-- (241, 1): 011110001 000000001. (261, 1): 100000101 000000001. -/
theorem test_selector_vblank_rows :
    Sel.pack 241 1 = 0b011110001000000001#18 ∧ decodeTableWord 24 0b011110001000000001 = some .vblSet ∧
    Sel.pack 261 1 = 0b100000101000000001#18 ∧ decodeTableWord 24 0b100000101000000001 = some .vblClear ∧
    Instr.pairHolds .irqRaise 0b011110001000000001#18 = true ∧
    Instr.pairHolds .statusWrite 0b100000101000000001#18 = true := by decide

/-- (261, 340): 100000101 101010100. Dot 256: 100000000. Dot 257: 100000001. Line 261: 100000101. -/
theorem test_selector_dispatch_rows :
    decodeTableWord 24 0b100000101101010100 = some .parityToggle ∧
    decodeTableWord 24 0b000000000100000000 = some .incFineY ∧
    decodeTableWord 24 0b000000000100000001 = some .fetchStall257 ∧
    Instr.pairHolds .copyH 0b000000111100000001#18 = true ∧ Instr.pairHolds .copyH 0b000000111100000000#18 = false ∧
    Instr.pairHolds .cpReset 0b000000111100000001#18 = true ∧
    decodeTableWord 24 0b100000101100011000 = some .copyV ∧
    Instr.pairHolds .fetchPthiPre 0b100000101000000111#18 = true ∧
    Instr.pairHolds .fetchPthiPre 0b100000100000000111#18 = false := by decide

/-- Any word of a frame stands for a tick; a word outside a frame or past 18 bits names no row. -/
theorem test_selector_other_words :
    decodeTableWord 24 0 = some .advance ∧ decodeTableWord 24 0b000001000000000101 = some .advance ∧
    decodeTableWord 24 0b100000110000000000 = none ∧ decodeTableWord 24 0b000000000101010101 = none ∧
    decodeTableWord 24 0x40000 = none := by decide

/-! ## The map (R88): what each step issues -/

/-- P1's key ticks (95_test_vectors.md): rendering off, the interrupt enabled. -/
theorem test_issued_at_the_key_ticks_of_P1 :
    issued .vblankCheck (({ at_ 241 1 with snap := { noInputs with irqEnable := true } } : State).tickCtx 241 1) =
      [.vblSet, .irqRaise] ∧
    issued .vblankCheck ((at_ 261 1).tickCtx 261 1) = [.vblClear, .statusWrite] ∧
    issued .pixel ((at_ 8 1).tickCtx 8 1) = [.pixelForcedDefault, .pixelEmit] ∧
    issued .pixel ((at_ 231 256).tickCtx 231 256) = [.pixelForcedDefault, .pixelEmit] ∧
    issued .pixel ((at_ 232 1).tickCtx 232 1) = [] ∧ issued .pixel ((at_ 8 0).tickCtx 8 0) = [] ∧
    issued .pixel ((at_ 8 257).tickCtx 8 257) = [] ∧
    issued .counter ((at_ 261 340).tickCtx 261 340) = [.counterAdvance, .parityToggle] ∧
    issued .mask ((at_ 0 0).tickCtx 0 0) = [] ∧ issued .sample ((at_ 0 0).tickCtx 0 0) = [.snapshot] := by decide

/-- The context of a tick with `G` at `(s, d)`. -/
def open_ (s d : Nat) : TickCtx := ({ at_ s d with snap := { noInputs with showBg := true } } : State).tickCtx s d

theorem test_issued_dispatch_rows :
    issued .reload (open_ 0 9) = [.srReload, .atRecompute] ∧ issued .reload (open_ 0 257) = [.srReload, .atRecompute] ∧
    issued .reload (open_ 0 337) = [.srReload, .atRecompute] ∧ issued .reload (open_ 0 321) = [] ∧
    issued .reload (open_ 0 1) = [] ∧ issued .reload (open_ 240 9) = [] ∧
    issued .address (open_ 5 290) = [] ∧ issued .address (open_ 261 280) = [.copyV] ∧
    issued .address (open_ 261 304) = [.copyV] ∧ issued .address (open_ 261 305) = [] ∧
    issued .address (open_ 0 256) = [.incFineY] ∧ issued .address (open_ 0 257) = [.copyH, .cpReset] ∧
    issued .address (open_ 0 8) = [.incCoarseXVis] ∧ issued .address (open_ 0 328) = [.incCoarseXPre] ∧
    issued .shift (open_ 0 1) = [] ∧ issued .shift (open_ 0 2) = [.srShift] ∧ issued .shift (open_ 0 257) = [.srShift] ∧
    issued .shift (open_ 0 258) = [] ∧ issued .shift (open_ 0 322) = [.srShift] ∧ issued .shift (open_ 0 338) = [] ∧
    issued .pixel (open_ 8 1) = [.pixelBg, .pixelEmit] := by decide

theorem test_issued_fetch_rows :
    issued .fetch (open_ 0 0) = [.fetchNtDummy] ∧ issued .fetch (open_ 0 1) = [.fetchNt] ∧
    issued .fetch (open_ 0 257) = [.fetchStall257] ∧ issued .fetch (open_ 0 337) = [.fetchNtDummy] ∧
    issued .fetch { open_ 0 1 with idle := 1 } = [.fetchIdle] ∧ issued .fetch { open_ 0 3 with stage := .AT } = [.fetchAt] ∧
    issued .fetch { open_ 0 336 with stage := .PTLO } = [.fetchPtlo] ∧
    issued .fetch { open_ 239 256 with stage := .PTHI } = [.fetchPthiVis] ∧
    issued .fetch { open_ 261 255 with stage := .PTHI } = [.fetchPthiPre] ∧ issued .fetch (open_ 240 1) = [] := by decide

/-- `R` without `BG`: the pipeline runs and the pixel takes the forced-blank path (R241). -/
theorem test_issued_with_sprites_only :
    issued .pixel { open_ 8 1 with e := { noInputs with showSpr := true }, v := 0x3F00#15 } = [.pixelForcedV, .pixelEmit] ∧
    issued .pixel { open_ 8 1 with e := { noInputs with showSpr := true }, v := 0x3EFF#15 } =
      [.pixelForcedDefault, .pixelEmit] ∧
    issued .fetch { open_ 8 1 with e := { noInputs with showSpr := true } } = [.fetchNt] ∧
    issued .mask { open_ 8 1 with liveMask := true } = [.tickMask] := by decide

/-! ## Operand assembly -/

/-- V-A4. -/
theorem test_address_formulas :
    ([0x0000#15, 0x0FFF#15, 0x7FFF#15, 0x2C3E#15, 0x0842#15].map ntAddr = [0x2000#14, 0x2FFF#14, 0x2FFF#14, 0x2C3E#14, 0x2842#14]) ∧
    ([0x0000#15, 0x0FFF#15, 0x7FFF#15, 0x2C3E#15, 0x0842#15].map atAddr = [0x23C0#14, 0x2FFF#14, 0x2FFF#14, 0x2FC7#14, 0x2BC0#14]) ∧
    ([0x0000#15, 0x0FFF#15, 0x7FFF#15, 0x2C3E#15, 0x0842#15].map (ptAddr false 0xAB#8) =
      [0x0AB0#14, 0x0AB0#14, 0x0AB7#14, 0x0AB2#14, 0x0AB0#14]) ∧
    ([0x0000#15, 0x0FFF#15, 0x7FFF#15, 0x2C3E#15, 0x0842#15].map (ptAddr true 0xFF#8) =
      [0x1FF0#14, 0x1FF0#14, 0x1FF7#14, 0x1FF2#14, 0x1FF0#14]) := by decide

/-- V-S4. -/
theorem test_pixel_mux :
    palAddr (muxIndex 0x0001 0 0xFF 0 0) = 0x3F05#14 ∧ palAddr (muxIndex 0x0002 0x0002 0 0xFF 1) = 0x3F0B#14 ∧
    palAddr (muxIndex 0x8000 0x8000 0xFF 0xFF 7) = 0x3F0C#14 ∧ palAddr (muxIndex 0x0080 0 0 0 7) = 0x3F01#14 := by decide

/-- RAW_FETCH_STAGES = {PTLO, PTHI}: those two and no other. -/
theorem test_ports : (at_ 0 0).portOf .NT = .generic ∧ (at_ 0 0).portOf .AT = .generic ∧ (at_ 0 0).portOf .PTLO = .raw ∧
    (at_ 0 0).portOf .PTHI = .raw := by decide

/-! ## Scheduler -/

/-- R101. -/
theorem test_tickMask : (nextOf (exec .tickMask { at_ 5 10 with v := 0x4FA0#15 })).map (·.v) = some 0x0FA0#15 := by decide

/-- R102: the sample is what the host holds. -/
theorem test_snapshot : (nextOf (exec .snapshot (lit 0 101))).map (·.snap.renderingEnabled) = some true := by decide

/-- V-T1, V-T2, V-T3. -/
theorem test_counterAdvance :
    (nextOf (exec .counterAdvance (at_ 0 340))).map (fun s => (s.scanline, s.dot)) = some (1, 0) ∧
    (nextOf (exec .counterAdvance (at_ 261 340))).map (fun s => (s.scanline, s.dot)) = some (0, 0) ∧
    (nextOf (exec .counterAdvance (at_ 17 200))).map (fun s => (s.scanline, s.dot)) = some (17, 201) := by decide

theorem test_parityToggle : (nextOf (exec .parityToggle (at_ 261 340))).map (·.frameParity) = some 1#1 := by decide

/-- V-T2 as a whole tick: the counters wrap and the parity toggles. -/
theorem test_advance_wraps : (nextOf (exec .advance (at_ 261 340))).map (fun s => (s.scanline, s.dot, s.frameParity)) =
    some (0, 0, 1#1) := by decide

/-- V-T4: line 240 is no render line. -/
theorem test_advance_on_line_240 : (nextOf (exec .advance { lit 240 100 with idle := 5 })).map (fun s => (s.dot, s.idle)) =
    some (101, 5) := by decide

/-- V-T7: the live mask. -/
theorem test_advance_masks :
    (nextOf (exec .advance { at_ 5 10 with params := { vectorParams with liveMask := true }, v := 0x4FA0#15 })).map (·.v) =
      some 0x0FA0#15 := by decide

/-! ## VBlank -/

/-- V-V1, V-V2, V-V3 as ticks: flag, pulse, request, no memory event. -/
theorem test_vblank_tick :
    (nextOf (exec .advance (at_ 241 1))).map (fun s => (s.vblank, s.irq, s.events)) = some (true, false, [.vblankEdge]) ∧
    (nextOf (exec .advance { at_ 241 1 with ext := { noInputs with irqEnable := true } })).map (fun s => (s.vblank, s.irq)) =
      some (true, true) ∧
    (nextOf (exec .advance { at_ 241 1 with ext := { noInputs with irqEnable := true }, irq := true })).map
      (fun s => irqEdge { at_ 241 1 with irq := true } s) = some false := by decide

theorem test_vblSet : (nextOf (exec .vblSet (at_ 241 1))).map (fun s => (s.vblank, s.events)) = some (true, [.vblankEdge]) := by decide

/-- R211: the enable bit decides. -/
theorem test_irqRaise :
    (nextOf (exec .irqRaise { at_ 241 1 with snap := { noInputs with irqEnable := true } })).map (·.irq) = some true ∧
    (nextOf (exec .irqRaise (at_ 241 1))).map (·.irq) = some false := by decide

/-- R212: the three flags, and not `irq`. -/
theorem test_vblClear :
    (nextOf (exec .vblClear { at_ 261 1 with vblank := true, spriteZeroHit := true, spriteOverflow := true, irq := true })).map
      (fun s => (s.vblank, s.spriteZeroHit, s.spriteOverflow, s.irq)) = some (false, false, false, true) := by decide

/-- R213. -/
theorem test_statusWrite :
    (nextOf (exec .statusWrite { at_ 261 1 with statusByte := 0xE0#8 })).map (fun s => (s.statusByte, s.events)) =
      some (0x00#8, [.write 0x2002#14 0x00#8 ⟨0⟩]) := by decide

/-- V-V7: no fetch or pixel after the write that is not accepted. -/
theorem test_statusWrite_faults :
    faultOf (exec .advance { lit 261 1 with statusAccepts := false }) = some (1, 261, 1, some 0x2002#14, some 0x00#8) := by
  decide

/-! ## Shift and reload -/

/-- V-S1, V-S5. -/
theorem test_srReload :
    (nextOf (exec .srReload { at_ 0 9 with ptLoLatch := 0xA5#8, ptHiLatch := 0x3C#8 })).map (fun s => (s.slo, s.shi)) =
      some (0xA500#16, 0x3C00#16) ∧
    (nextOf (exec .srReload { at_ 0 9 with ptLoLatch := 0xA5#8, slo := 0x1234#16 })).map (·.slo) = some 0xA534#16 := by decide

/-- V-S1: group 2·v[5] + v[0]. -/
theorem test_atRecompute :
    [0x0000#15, 0x0001#15, 0x0020#15, 0x0021#15, 0x0002#15, 0x0040#15].map (fun v =>
      (nextOf (exec .atRecompute { at_ 0 9 with atLatch := 0xE4#8, v := v })).map fun s => (s.alo, s.ahi)) =
      [some (0x00#8, 0x00#8), some (0xFF#8, 0x00#8), some (0x00#8, 0xFF#8), some (0xFF#8, 0xFF#8), some (0x00#8, 0x00#8),
        some (0x00#8, 0x00#8)] := by decide

/-- V-S2. -/
theorem test_srShift : (nextOf (exec .srShift { at_ 0 9 with slo := 0xA500#16, shi := 0x8001#16 })).map (fun s => (s.slo, s.shi)) =
    some (0x5280#16, 0x4000#16) := by decide

/-! ## Fetch -/

/-- R140, R141. -/
theorem test_idle_and_stall :
    (nextOf (exec .fetchIdle { at_ 0 1 with idle := 1 })).map (·.idle) = some 0 ∧
    (nextOf (exec .fetchStall257 { at_ 5 257 with idle := 7 })).map (·.idle) = some 63 := by decide

/-- V-F4: the dummy fetch keeps the stage. -/
theorem test_fetchNtDummy :
    (nextOf (exec .advance { lit 0 0 with v := 0x0022#15, gen := [(0x2022, 0x55#8)] })).map
      (fun s => (s.ntLatch, s.stage, s.idle, s.events)) =
      some (0x55#8, .NT, 1, [.read .generic 0x2022#14 0x55#8]) := by decide

/-- R144. -/
theorem test_fetchNt :
    (nextOf (exec .fetchNt { at_ 0 2 with v := 0x0021#15, gen := [(0x2021, 0x12#8)] })).map
      (fun s => (s.ntLatch, s.stage, s.idle)) = some (0x12#8, .AT, 1) := by decide

/-- R145. -/
theorem test_fetchAt :
    (nextOf (exec .fetchAt { at_ 0 4 with v := 0x2C3E#15, gen := [(0x2FC7, 0xE4#8)], stage := .AT })).map
      (fun s => (s.atLatch, s.stage, s.idle)) = some (0xE4#8, .PTLO, 1) := by decide

/-- R146. -/
theorem test_fetchPtlo :
    (nextOf (exec .fetchPtlo { at_ 0 6 with ntLatch := 0x01#8, raw := [(0x0010, 0x80#8)], stage := .PTLO })).map
      (fun s => (s.ptBase, s.ptLoLatch, s.stage, s.idle)) = some (0x0010#14, 0x80#8, .PTHI, 1) := by decide

/-- R147, V-F6: the base is recomputed and stored. -/
theorem test_fetchPthiVis :
    (nextOf (exec .fetchPthiVis { at_ 5 8 with
      ntLatch := 0xAB#8, v := 0x2000#15, ptBase := 0x0AB2#14, raw := [(0x1ABA, 0x77#8)], stage := .PTHI
      snap := { noInputs with bgPatternSelect := true } })).map
      (fun s => (s.ptBase, s.ptHiLatch, s.stage, s.idle)) = some (0x1AB2#14, 0x77#8, .NT, 1) := by decide

/-- R148, V-F5: the base is not recomputed. -/
theorem test_fetchPthiPre :
    (nextOf (exec .fetchPthiPre { at_ 261 7 with
      ntLatch := 0xAB#8, v := 0x2000#15, ptBase := 0x0AB2#14, raw := [(0x0ABA, 0x66#8)], stage := .PTHI
      snap := { noInputs with bgPatternSelect := true } })).map
      (fun s => (s.ptBase, s.ptHiLatch, s.stage, s.idle)) = some (0x0AB2#14, 0x66#8, .NT, 1) := by decide

/-- R55: a read that is not answered. -/
theorem test_fetch_faults : faultOf (exec .advance (lit 0 1)) = some (1, 0, 1, some 0x2000#14, none) := by decide

/-! ## Address pathway -/

/-- V-A1. -/
theorem test_incFineY :
    [0x0000#15, 0x6000#15, 0x7000#15, 0x73A0#15, 0x7BA0#15, 0x73E0#15, 0x7BE0#15, 0x7F80#15, 0x73C0#15].map (fun v =>
      (nextOf (exec .incFineY { at_ 0 256 with v := v })).map (·.v)) =
      [0x1000#15, 0x7000#15, 0x0020#15, 0x0800#15, 0x0000#15, 0x0000#15, 0x0800#15, 0x0FA0#15, 0x03E0#15].map some := by decide

/-- V-A2, V-A5. -/
theorem test_incCoarseXVis :
    [0x0000#15, 0x001E#15, 0x001F#15, 0x041F#15, 0x7FFF#15].map (fun v =>
      (nextOf (exec .incCoarseXVis { at_ 0 8 with v := v })).map fun s => (s.v, s.cpVis, s.cpPre)) =
      [0x0001#15, 0x001F#15, 0x0400#15, 0x0000#15, 0x7BE0#15].map fun v => some (v, 16, 328) := by decide

/-- V-A8. -/
theorem test_incCoarseXPre :
    (nextOf (exec .incCoarseXPre { at_ 261 328 with v := 0x3BBE#15 })).map (fun s => (s.v, s.cpVis, s.cpPre)) =
      some (0x3BBF#15, 8, 336) ∧
    (nextOf (exec .incCoarseXPre { at_ 261 336 with v := 0x3BBF#15, cpPre := 336 })).map (fun s => (s.v, s.cpPre)) =
      some (0x3FA0#15, 344) := by decide

/-- V-A3. -/
theorem test_copyH :
    [(0x7FFF#15, 0x0000#15), (0x0000#15, 0x7FFF#15), (0x1234#15, 0x4321#15)].map (fun p =>
      (nextOf (exec .copyH { at_ 0 257 with v := p.1, snap := { noInputs with t := p.2 } })).map (·.v)) =
      [some 0x7BE0#15, some 0x041F#15, some 0x1221#15] := by decide

/-- V-A3. -/
theorem test_copyV :
    [(0x7FFF#15, 0x0000#15), (0x0000#15, 0x7FFF#15), (0x1234#15, 0x4321#15)].map (fun p =>
      (nextOf (exec .copyV { at_ 261 280 with v := p.1, snap := { noInputs with t := p.2 } })).map (·.v)) =
      [some 0x041F#15, some 0x7BE0#15, some 0x4334#15] := by decide

theorem test_cpReset : (nextOf (exec .cpReset { at_ 0 257 with cpVis := 256, cpPre := 344 })).map (fun s => (s.cpVis, s.cpPre)) =
    some (8, 328) := by decide

/-- V-A6, V-A7 as ticks: INC_FINE_Y alone at 256; copy, checkpoints and stall at 257. -/
theorem test_advance_at_256_and_257 :
    (nextOf (exec .advance { lit 0 256 with cpVis := 256, v := 0x001F#15, idle := 1 })).map (fun s => (s.v, s.cpVis)) =
      some (0x101F#15, 256) ∧
    (nextOf (exec .advance { at_ 0 257 with
      cpVis := 256, cpPre := 344, v := 0x101F#15, ext := { noInputs with showBg := true, t := 0x001E#15 } })).map
      (fun s => (s.v, s.cpVis, s.cpPre, s.idle)) = some (0x101E#15, 8, 328, 63) := by decide

/-! ## Pixel renderer -/

/-- R191, R192, R193. -/
theorem test_pixel_addresses :
    (nextOf (exec .pixelBg { at_ 8 1 with slo := 1#16, alo := 0xFF#8 })).map (·.pa) = some 0x3F05#14 ∧
    (nextOf (exec .pixelForcedV { at_ 8 1 with v := 0x7F05#15 })).map (·.pa) = some 0x3F05#14 ∧
    (nextOf (exec .pixelForcedDefault { at_ 8 1 with v := 0x7F05#15 })).map (·.pa) = some 0x3F00#14 := by decide

/-- R194, R195, V-P5: the last cell. -/
theorem test_pixelEmit :
    (nextOf (exec .pixelEmit { at_ 231 256 with pa := 0x3F00#14, gen := [(0x3F00, 0x0F#8)] })).map (·.fb) =
      some [(223 * 256 + 255, ⟨15, 15, 15⟩)] ∧
    refusalOf (exec .pixelEmit (at_ 8 0)) = some .noFrameBufferCell := by decide

/-- V-P1 as a tick: the forced-blank quirk. -/
theorem test_advance_pixel :
    (nextOf (exec .advance { at_ 8 1 with v := 0x3F1C#15, gen := [(0x3F1C, 0x21#8)] })).map (·.fb) =
      some [(0, ⟨0x21, 0x21, 0x21⟩)] ∧
    (nextOf (exec .advance { at_ 8 1 with v := 0x3F1C#15, gen := [(0x3F1C, 0x21#8)] })).map (·.events) =
      some [.read .generic 0x3F1C#14 0x21#8, .pixel 0 0 ⟨0x21, 0x21, 0x21⟩] := by decide

/-- V-P3 as a tick: a palette byte of 0x40. -/
theorem test_advance_palette_fault :
    faultOf (exec .advance { at_ 8 1 with gen := [(0x3F00, 0x40#8)] }) = some (2, 8, 1, some 0x3F00#14, some 0x40#8) := by decide

/-- V-T6: VBlank stops the pixel and the dispatch. -/
theorem test_advance_in_vblank :
    (nextOf (exec .advance { lit 250 100 with vblank := true, idle := 5 })).map (fun s => (s.dot, s.idle, s.events)) =
      some (101, 5, []) := by decide

/-! ## Host moves -/

/-- R240, R241. -/
theorem test_host_set_fields :
    (nextOf (exec (.hostSetCtrl (some true) (some false)) { at_ 0 0 with ext := { noInputs with irqEnable := true } })).map
      (fun s => (s.ext.bgPatternSelect, s.ext.irqEnable)) = some (true, false) ∧
    (nextOf (exec (.hostSetMask none (some true)) (lit 0 0))).map (fun s => (s.ext.showBg, s.ext.showSpr)) = some (true, true) := by
  decide

/-- R242, R243, R244: the masks, and the replacement. -/
theorem test_host_set_numbers :
    (nextOf (exec (.hostSetT 0xFFFF) (at_ 0 0))).map (·.ext.t) = some 0x7FFF#15 ∧
    (nextOf (exec (.hostSetFinex 11) (at_ 0 0))).map (·.ext.fineX) = some 3#3 ∧
    (nextOf (exec (.hostSetIdle 1000) { at_ 0 0 with idle := 5 })).map (·.idle) = some 1000 := by decide

/-- V-V5, R246. -/
theorem test_host_flags :
    (nextOf (exec .hostClrIrq { at_ 0 0 with irq := true })).map (·.irq) = some false ∧
    (nextOf (exec (.hostSetSprflags true false) { at_ 100 0 with spriteOverflow := true })).map
      (fun s => (s.spriteZeroHit, s.spriteOverflow)) = some (true, false) := by decide

/-- R247: one view. -/
theorem test_hostPoke :
    (nextOf (exec (.hostPoke .generic 0x3F00#14 0x0F#8) (at_ 0 0))).map
      (fun s => (s.readByte .generic 0x3F00#14, s.readByte .raw 0x3F00#14)) = some (some 0x0F#8, none) := by decide

/-- R248. -/
theorem test_hostObserve : nextOf (exec .hostObserve (lit 3 4)) = some (lit 3 4) := rfl

/-- 00_scope.md R7: a value in each form, 5 = 0x5 = 0b101; a digit of another base is no number. -/
theorem test_numbers :
    decode (ascii "IDLE 0b101") = .ok (.hostSetIdle 5) ∧ decode (ascii "IDLE 0x5") = .ok (.hostSetIdle 5) ∧
    decode (ascii "IDLE 5") = .ok (.hostSetIdle 5) ∧ decode (ascii "IDLE 0b102") = .error .badNumber := by decide

/-- 60_exceptions.md R230 and R232: codes 1 and 2 for the two faults, 3 for `InitOutOfRange`. -/
theorem test_codes :
    Fault.code (.memoryContract 0 0 (.read .generic 0#14) [] State.reset) = 1 ∧
    Fault.code (.paletteValueOutOfRange 0 0 0#14 0x40#8 [] State.reset) = 2 ∧
    Refusal.code .initOutOfRange = some 3 ∧ Refusal.code .notAHostMove = none := by decide

/-- V-R2, V-R3, V-R4. -/
theorem test_hostReinit :
    refusalOf (exec (.hostReinit { InitImage.refInit with dot := 341 }) (at_ 0 0)) = some .initOutOfRange ∧
    refusalOf (exec (.hostReinit { InitImage.refInit with v := 0x8000 }) (at_ 0 0)) = some .initOutOfRange ∧
    (nextOf (exec (.hostReinit { InitImage.refInit with alo := 0x5A, vblank := true }) (at_ 9 9))).map
      (fun s => (s.scanline, s.dot, s.alo, s.vblank)) = some (0, 0, 0x5A#8, true) := by decide

/-! ## Table words: the step runs the row's tick as the first after reset -/

theorem test_withFetchWord_rows :
    (nextOf (step (State.reset.withFetchWord 24 0b011110001000000001))).map (·.vblank) = some true ∧
    (nextOf (step (State.reset.withFetchWord 24 0b100000101101010100))).map (fun s => (s.scanline, s.frameParity)) =
      some (0, 1#1) ∧
    (nextOf (step (State.reset.withFetchWord 24 0b000000000100000000))).map (·.v) = some 0x1000#15 ∧
    (nextOf (step (State.reset.withFetchWord 24 0b000000000100000001))).map (·.idle) = some 63 ∧
    (nextOf (step (State.reset.withFetchWord 24 0))).map (fun s => (s.scanline, s.dot)) = some (0, 1) := by decide

/-! ## Witnesses: the hypotheses of each statement are met -/

theorem witness_EncodedLineDecodesBack :
    Instr.scriptable (.hostReinit { InitImage.refInit with stage := .PTHI, vblank := true, v := 0x7FFF }) = true ∧
    Instr.scriptable (.hostPoke .raw 0x3FFF#14 0xFF#8) = true ∧ Instr.scriptable (.hostSetCtrl none (some true)) = true ∧
    Instr.scriptable .parityToggle = true := by decide

theorem witness_IssuedRowsHoldPairAndSelect :
    (open_ 261 340).scanline ≤ 261 ∧ (open_ 261 340).dot ≤ 340 ∧ .parityToggle ∈ issued .counter (open_ 261 340) ∧
    .copyV ∈ issued .address (open_ 261 280) ∧ .cpReset ∈ issued .address (open_ 0 257) ∧
    .fetchPthiPre ∈ issued .fetch { open_ 261 336 with stage := .PTHI } := by decide

/-- Each clause at its boundary; the gate closed at line 240. -/
theorem witness_AddressStepIssuesFirstOfChain :
    (open_ 240 256).gate = false ∧ (open_ 239 256).gate = true ∧ (open_ 261 257).gate = true ∧
    (open_ 261 280).gate = true ∧ (open_ 261 304).gate = true ∧ (open_ 261 305).gate = true ∧
    (open_ 0 8).gate = true ∧ (open_ 0 8).dot = (open_ 0 8).cpVis ∧ (open_ 0 328).dot = (open_ 0 328).cpPre := by decide

theorem witness_FetchStepIssuesOneUnderGate :
    ({ open_ 0 1 with vblank := true } : TickCtx).gate = false ∧ (open_ 0 0).gate = true ∧ (open_ 0 1).gate = true ∧
    (open_ 0 256).gate = true ∧ (open_ 0 257).gate = true ∧ (open_ 0 321).gate = true ∧ (open_ 261 336).gate = true ∧
    (open_ 0 337).gate = true := by decide

theorem witness_StepRunsNextMove :
    (at_ 0 0).pending = [] ∧ ({ at_ 0 0 with pending := [.hostClrIrq, .advance] } : State).pending = .hostClrIrq :: [.advance] ∧
    Instr.isHostMove .hostClrIrq = true ∧ Instr.isHostMove .srShift = false := by decide

theorem witness_LoadedLineIsTheNextMove :
    Instr.scriptable .advance = true ∧ Instr.isHostMove .advance = true ∧
    Instr.scriptable (.hostReinit InitImage.refInit) = true ∧ Instr.isHostMove (.hostReinit InitImage.refInit) = true := by decide

theorem witness_EveryStepKeepsCountersAndCells :
    (at_ 261 340).Inv ∧ ∃ t, step (at_ 261 340) = .next t :=
  ⟨⟨⟨by decide, by decide⟩, by decide, by decide, by decide⟩, _, rfl⟩

theorem witness_TickKeepsAttributeReplicas :
    ({ at_ 0 0 with alo := 0xFF#8 } : State).attrReplicated ∧ ∃ t, exec .advance { at_ 0 0 with alo := 0xFF#8 } = .next t :=
  ⟨⟨.inr rfl, .inl rfl⟩, _, rfl⟩

theorem witness_TickKeepsVblankPhase :
    ((at_ 241 1).countersOk ∧ (at_ 241 1).vblankInPhase ∧ ∃ t, exec .advance (at_ 241 1) = .next t) ∧
    (({ at_ 261 1 with vblank := true } : State).countersOk ∧ ({ at_ 261 1 with vblank := true } : State).vblankInPhase ∧
      ∃ t, exec .advance { at_ 261 1 with vblank := true } = .next t) :=
  ⟨⟨⟨by decide, by decide⟩, by unfold State.vblankInPhase; decide, _, rfl⟩, ⟨by decide, by decide⟩,
    by unfold State.vblankInPhase; decide, _, rfl⟩

/-- The hypothesis of `CountersAdvanceEveryTick`, `ParityTogglesAndHasNoEffect`, `TickLeavesHostStateAlone`,
`TickEventsComeInOrder`, `TickSetsAndClearsFlagsAtTwoTicks`, `InterruptRaisedIffEnabledAtThatTick`: a
tick that completes, at each place their clauses name. -/
theorem witness_CompletedTicks :
    (∃ t, exec .advance (at_ 261 340) = .next t) ∧ (∃ t, exec .advance (at_ 0 340) = .next t) ∧
    (∃ t, exec .advance (at_ 0 0) = .next t) ∧ (∃ t, exec .advance (at_ 241 1) = .next t) ∧
    (∃ t, exec .advance (at_ 261 1) = .next t) ∧
    (∃ t, exec .advance { at_ 8 1 with gen := [(0x3F00, 0x0F#8)] } = .next t) :=
  ⟨⟨_, rfl⟩, ⟨_, rfl⟩, ⟨_, rfl⟩, ⟨_, rfl⟩, ⟨_, rfl⟩, _, rfl⟩

theorem witness_ClosedGateFreezesThePipeline :
    (lit 240 8).gateHolds = false ∧ (lit 240 8).params.liveMask = false ∧ ∃ t, exec .advance (lit 240 8) = .next t :=
  ⟨rfl, rfl, _, rfl⟩

theorem witness_VblankTickMovesOnlyTheCounters :
    ({ at_ 261 0 with vblank := true } : State).vblank = true ∧ ¬((261 : Nat) = 241 ∧ (0 : Nat) = 1) ∧
    ¬((261 : Nat) = 261 ∧ (0 : Nat) = 1) ∧ ({ at_ 261 0 with vblank := true } : State).params.liveMask = false := by decide

theorem witness_LiveMaskStopsCoarseY :
    ({ lit 0 256 with params := { vectorParams with liveMask := true }, v := 0x73A0#15, idle := 1 } : State).params.liveMask = true ∧
    ({ lit 0 256 with params := { vectorParams with liveMask := true }, v := 0x73A0#15, idle := 1 } : State).dot = 256 ∧
    ∃ t, exec .advance { lit 0 256 with params := { vectorParams with liveMask := true }, v := 0x73A0#15, idle := 1 } = .next t :=
  ⟨rfl, rfl, _, rfl⟩

theorem witness_StatusWriteResultOrFault :
    (at_ 261 1).statusAccepts = true ∧ ({ at_ 261 1 with statusAccepts := false } : State).statusAccepts = false := by decide

theorem witness_InterruptTickNeverFaults : (at_ 241 1).scanline = 241 ∧ (at_ 241 1).dot = 1 := by decide

theorem witness_RejectedStatusWriteEndsTheTick :
    ({ at_ 261 1 with statusAccepts := false } : State).scanline = 261 ∧ (at_ 261 1).dot = 1 ∧
    ({ at_ 261 1 with statusAccepts := false } : State).statusAccepts = false := by decide

/-- Fine Y 7 with coarse Y 29, 31, 30, and fine Y 6. -/
theorem witness_FineYIncrementResult :
    fineY 0x73A0#15 = 7#3 ∧ coarseY 0x73A0#15 = 29#5 ∧ fineY 0x73E0#15 = 7#3 ∧ coarseY 0x73E0#15 = 31#5 ∧
    fineY 0x73C0#15 = 7#3 ∧ coarseY 0x73C0#15 = 30#5 ∧ fineY 0x6000#15 ≠ 7#3 := by decide

theorem witness_CoarseXIncrementResults : coarseX 0x001F#15 = 31#5 ∧ coarseX 0x001E#15 ≠ 31#5 := by decide

theorem witness_ReloadLoadsHighBytesAtItsDots :
    (open_ 0 9).gate = true ∧ (open_ 0 9).dot = 8 * 1 + 1 ∧ (open_ 0 257).gate = true ∧ (open_ 0 257).dot = 8 * 32 + 1 ∧
    (open_ 0 329).gate = true ∧ (open_ 261 337).gate = true ∧ (open_ 240 9).gate = false := by decide

/-- With `v = 0`, `ntLatch = 0` and no pattern select the six reads go to 0x2000, 0x23C0, 0x0000, 0x0008. -/
theorem witness_AnsweredFetchResults :
    (let s : State := { at_ 0 2 with gen := [(0x2000, 5#8), (0x23C0, 5#8)], raw := [(0x0000, 5#8), (0x0008, 5#8)] }
    s.readByte (s.portOf .NT) (ntAddr s.v) = some 5#8 ∧ s.readByte (s.portOf .AT) (atAddr s.v) = some 5#8 ∧
    s.readByte (s.portOf .PTLO) (ptAddr s.snap.bgPatternSelect s.ntLatch s.v) = some 5#8 ∧
    s.readByte (s.portOf .PTHI) (ptAddr s.snap.bgPatternSelect s.ntLatch s.v + 8#14) = some 5#8 ∧
    s.readByte (s.portOf .PTHI) (s.ptBase + 8#14) = some 5#8) := by decide

theorem witness_UnansweredFetchFaults :
    (at_ 0 2).readByte ((at_ 0 2).portOf .NT) (ntAddr (at_ 0 2).v) = none ∧
    (at_ 0 2).readByte ((at_ 0 2).portOf .AT) (atAddr (at_ 0 2).v) = none ∧
    (at_ 0 2).readByte ((at_ 0 2).portOf .PTLO) (ptAddr (at_ 0 2).snap.bgPatternSelect (at_ 0 2).ntLatch (at_ 0 2).v) = none ∧
    (at_ 0 2).readByte ((at_ 0 2).portOf .PTHI)
      (ptAddr (at_ 0 2).snap.bgPatternSelect (at_ 0 2).ntLatch (at_ 0 2).v + 8#14) = none ∧
    (at_ 0 2).readByte ((at_ 0 2).portOf .PTHI) ((at_ 0 2).ptBase + 8#14) = none := by decide

theorem witness_StallReachesThePrefetchWindow :
    (lit 239 257).dot = 257 ∧ renderLine (lit 239 257).scanline = true ∧ renderLine (lit 261 257).scanline = true ∧
    (lit 239 257).vblank = false ∧ (lit 239 257).ext.renderingEnabled = true := by decide

theorem witness_FineXDoesNotMoveTheAttributeBits : ({ at_ 0 0 with ahi := 0xFF#8 } : State).attrReplicated :=
  ⟨.inl rfl, .inr rfl⟩

/-- Each clause: a byte of 0x3F, a byte of 0x40, no byte, and coordinates just outside the window. -/
theorem witness_PixelEmitResults :
    writeWindow (at_ 8 1).scanline (at_ 8 1).dot = true ∧ writeWindow (at_ 231 256).scanline (at_ 231 256).dot = true ∧
    ({ at_ 8 1 with gen := [(0, 0x3F#8)] } : State).readByte .generic 0#14 = some 0x3F#8 ∧ (0x3F#8).toNat < 64 ∧
    ({ at_ 8 1 with gen := [(0, 0x40#8)] } : State).readByte .generic 0#14 = some 0x40#8 ∧ 64 ≤ (0x40#8).toNat ∧
    (at_ 8 1).readByte .generic 0#14 = none ∧ writeWindow (at_ 7 1).scanline (at_ 7 1).dot = false ∧
    writeWindow (at_ 232 256).scanline (at_ 232 256).dot = false ∧ writeWindow (at_ 8 257).scanline (at_ 8 257).dot = false := by
  decide

theorem witness_TickWritesExactlyItsCell :
    (∃ t, exec .advance { at_ 231 256 with gen := [(0x3F00, 0x0F#8)] } = .next t) ∧
    ({ at_ 231 256 with gen := [(0x3F00, 0x0F#8)] } : State).pixelGateHolds = true ∧
    (∃ t, exec .advance (at_ 8 0) = .next t) ∧ (at_ 8 0).pixelGateHolds = false :=
  ⟨⟨_, rfl⟩, rfl, ⟨_, rfl⟩, rfl⟩

/-- The three causes. -/
theorem witness_TickFaultsOnlyForTheListedCauses :
    (∃ f, exec .advance (lit 0 1) = .fault f) ∧
    (∃ f, exec .advance { at_ 261 1 with statusAccepts := false } = .fault f) ∧
    (∃ f, exec .advance { at_ 8 1 with gen := [(0x3F00, 0x40#8)] } = .fault f) :=
  ⟨⟨_, rfl⟩, ⟨_, rfl⟩, _, rfl⟩

/-! ### A memory subsystem that answers every read with 0 -/

/-- `n` zero bytes from address `a` on. -/
def zerosFrom (a : Nat) : Nat → Memory
  | 0 => []
  | n + 1 => (a, 0#8) :: zerosFrom (a + 1) n

theorem cellAt_zerosFrom (k a n : Nat) (h : a ≤ k) (h' : k < a + n) : cellAt k (zerosFrom a n) = some 0#8 := by
  induction n generalizing a with
  | zero => omega
  | succ n ih =>
    rw [zerosFrom, cellAt_cons]
    split
    · rfl
    · exact ih (a + 1) (by omega) (by omega)

/-- 95_test_vectors.md: "every byte reads 0 through both ports". -/
def filled (s : State) : State := { s with gen := zerosFrom 0 0x4000, raw := zerosFrom 0 0x4000 }

theorem filled_reads (s : State) (p : Port) (a : Addr) : (filled s).readByte p a = some 0#8 := by
  cases p <;> exact cellAt_zerosFrom _ _ _ (Nat.zero_le _) (by have := a.isLt; omega)

theorem filled_booted (s : State) (h : s.statusAccepts = true) : (filled s).booted := by
  refine ⟨fun p a => by rw [filled_reads]; rfl, fun a _ b hb => ?_, h⟩
  rw [filled_reads] at hb
  cases hb
  decide

theorem witness_BootedTickCompletes : (filled (lit 8 1)).booted := filled_booted _ rfl

/-- Also the hypotheses of `OnePulseAndOneStatusWritePerFrame`. -/
theorem witness_FrameOfTicksReturnsTheCounters :
    (filled (lit 261 340)).booted ∧ (filled (lit 261 340)).countersOk ∧ (filled (lit 0 0)).booted ∧
    (filled (lit 0 0)).countersOk :=
  ⟨filled_booted _ rfl, ⟨by decide, by decide⟩, filled_booted _ rfl, by decide, by decide⟩

theorem witness_FrameDrawsEveryCell : (filled (lit 0 0)).booted ∧ (filled (lit 0 0)).dot = 0 ∧ (filled (lit 0 0)).scanline = 0 ∧
    (filled (lit 0 0)).vblank = false := ⟨filled_booted _ rfl, rfl, rfl, rfl⟩

theorem witness_RenderedLineRepeatsItsSchedule (sl : Nat) (h : sl = 0 ∨ sl = 239) :
    (filled { lit sl 0 with cpPre := 344 }).booted ∧ (filled { lit sl 0 with cpPre := 344 }).dot = 0 ∧
    (filled { lit sl 0 with cpPre := 344 }).scanline ≤ 239 ∧ (filled { lit sl 0 with cpPre := 344 }).vblank = false ∧
    (filled { lit sl 0 with cpPre := 344 }).ext.renderingEnabled = true ∧ (filled { lit sl 0 with cpPre := 344 }).idle = 0 ∧
    (filled { lit sl 0 with cpPre := 344 }).stage = .NT ∧ (filled { lit sl 0 with cpPre := 344 }).cpVis = 8 ∧
    (filled { lit sl 0 with cpPre := 344 }).cpPre = 344 :=
  ⟨filled_booted _ rfl, rfl, by rcases h with rfl | rfl <;> decide, rfl, rfl, rfl, rfl, rfl, rfl⟩

theorem witness_PreRenderLineRepeatsItsSchedule :
    (filled { lit 261 0 with cpPre := 344, vblank := true }).booted ∧
    (filled { lit 261 0 with cpPre := 344, vblank := true }).dot = 0 ∧
    (filled { lit 261 0 with cpPre := 344, vblank := true }).scanline = 261 ∧
    (filled { lit 261 0 with cpPre := 344, vblank := true }).vblank = true ∧
    (filled { lit 261 0 with cpPre := 344, vblank := true }).ext.renderingEnabled = true ∧
    (filled { lit 261 0 with cpPre := 344, vblank := true }).idle = 0 ∧
    (filled { lit 261 0 with cpPre := 344, vblank := true }).stage = .NT ∧
    (filled { lit 261 0 with cpPre := 344, vblank := true }).cpVis = 8 ∧
    (filled { lit 261 0 with cpPre := 344, vblank := true }).cpPre = 344 :=
  ⟨filled_booted _ rfl, rfl, rfl, rfl, rfl, rfl, rfl, rfl, rfl⟩

theorem witness_PokeChangesOneByteOfOneView : Memory.wf (at_ 0 0).gen = true ∧ Memory.wf (at_ 0 0).raw = true ∧
    ¬(Port.raw = Port.generic ∧ (0x3FFF#14) = 0x3FFF#14) := by decide

/-- Every number at the top of its range, and a cell in the last place. -/
theorem witness_ReinitReplacesTheTuple :
    admitted { InitImage.refInit with
      dot := 340, scanline := 261, v := 0x7FFF, slo := 0xFFFF, shi := 0xFFFF, alo := 0xFF, ahi := 0x5A, ptBase := 0x3FFF
      frameParity := 1, fb := [⟨0, 0, 1, 2, 3⟩, ⟨223, 255, 255, 255, 255⟩] } = true ∧
    Instr.wellFormed (.hostReinit { InitImage.refInit with
      dot := 340, scanline := 261, v := 0x7FFF, slo := 0xFFFF, shi := 0xFFFF, alo := 0xFF, ahi := 0x5A, ptBase := 0x3FFF
      frameParity := 1, fb := [⟨0, 0, 1, 2, 3⟩, ⟨223, 255, 255, 255, 255⟩] }) = true := by decide

theorem witness_OtherInitialStatesAreRefused :
    admitted { InitImage.refInit with dot := 341 } = false ∧ admitted { InitImage.refInit with scanline := 262 } = false ∧
    admitted { InitImage.refInit with v := 0x8000 } = false ∧ admitted { InitImage.refInit with ptBase := 0x4000 } = false ∧
    admitted { InitImage.refInit with frameParity := 2 } = false ∧
    admitted { InitImage.refInit with fb := [⟨224, 0, 0, 0, 0⟩] } = false ∧
    admitted { InitImage.refInit with fb := [⟨0, 0, 256, 0, 0⟩] } = false := by decide

theorem witness_HostMovesNeverTouchTheDatapath :
    Instr.isHostMove (.hostSetIdle 3) = true ∧ Instr.hostSetIdle 3 ≠ .advance ∧
    (∀ S0, Instr.hostSetIdle 3 ≠ .hostReinit S0) ∧ ∃ t, exec (.hostSetIdle 3) (at_ 0 0) = .next t :=
  ⟨rfl, by decide, nofun, _, rfl⟩

end Sys2Proof.Tests
end

section
/-! SUPPORT. The memory statements (20_memory.md): what a tick leaves of the host's side, the order of its events, and the
faults of the fetch reads. -/

namespace Sys2Proof.Machine

/-! ## The read ports, seen from any state of the tick -/

/-- What a port answers depends on the two memories alone. -/
theorem readByte_congr {s t : State} (hgen : t.gen = s.gen) (hraw : t.raw = s.raw) (p : Port) (a : Addr) :
    t.readByte p a = s.readByte p a := by
  cases p
  · simp only [State.readByte, State.memory, hgen]
  · simp only [State.readByte, State.memory, hraw]

/-- The status location after a tick: 0x00 at (261, 1), else its byte before (R53, 45_vblank.md R213). -/
theorem tick_statusByte {s t : State} (h : execAdvance s = .next t) :
    t.statusByte = if s.scanline = 261 ∧ s.dot = 1 then 0x00#8 else s.statusByte := by
  obtain ⟨s3, s5a, s5b, s5c, s5d, s6, h3, ha, hb, hc, hd, h6, h7⟩ := tick_eq_next.1 h
  obtain ⟨-, -, -, -, hstatus, -⟩ := check_cases h3
  have hkept : t.statusByte = s3.statusByte := by
    rw [counter_frame h7, pixel_frame h6, shift_frame hd, address_frame hc, (fetch_frame hb).1, reload_frame ha]
  rw [hkept, hstatus]

/-- Settles O45: the frame of the tick on the host's side, and its one write, the status write of (261, 1). -/
theorem tickLeavesHostStateAlone : Obligations.TickLeavesHostStateAlone := by
  intro s t h
  obtain ⟨hext, hgen, hraw, haccepts, hparams, hpending, -, -⟩ := tick_frame h
  exact ⟨readByte_congr hgen hraw, hext, hparams, haccepts, hpending, tick_statusByte h⟩

/-! ## The events of a tick (R60) -/

/-- The events of step 5b: none, or one read that its port answers. -/
def isFetchPart (s : State) (es : List Event) : Prop :=
  es = [] ∨ ∃ p a b, s.readByte p a = some b ∧ es = [.read p a b]

/-- The events of step 6: none, or one palette read that the generic port answers, and the pixel. -/
def isPixelPart (s : State) (es : List Event) : Prop :=
  es = [] ∨ ∃ a b color, s.readByte .generic a = some b ∧ 0x3F00 ≤ a.toNat ∧
    es = [.read .generic a b, .pixel (s.scanline - 8) (s.dot - 1) color]

theorem fetch_events {sl d : Nat} {s t : State} (h : stepOf .fetch sl d s = .next t) :
    ∃ es, t.events = s.events ++ es ∧ isFetchPart s es := by
  obtain ⟨-, hnone | ⟨p, a, b, hread, hone⟩⟩ := fetch_frame h
  · exact ⟨[], by rw [hnone, List.append_nil], .inl rfl⟩
  · exact ⟨_, hone, .inr ⟨p, a, b, hread, rfl⟩⟩

theorem pixel_events {sl d : Nat} {s t : State} (h : stepOf .pixel sl d s = .next t) :
    ∃ es, t.events = s.events ++ es ∧ isPixelPart s es := by
  obtain ⟨-, rfl⟩ | ⟨-, -, b, color, hread, -, rfl⟩ := pixel_cases h
  · exact ⟨[], (List.append_nil _).symm, .inl rfl⟩
  · exact ⟨_, List.append_assoc .., .inr ⟨pixelAddr s, b, color, hread, pixelAddr_range s, rfl⟩⟩

/-- A state inside the tick that kept the memories has the fetch events of the tick's start. -/
theorem isFetchPart_congr {s t : State} (hgen : t.gen = s.gen) (hraw : t.raw = s.raw) (es : List Event) :
    isFetchPart t es ↔ isFetchPart s es := by
  simp only [isFetchPart, readByte_congr hgen hraw]

theorem isPixelPart_congr {s t : State} (hgen : t.gen = s.gen) (hraw : t.raw = s.raw) (hsl : t.scanline = s.scanline)
    (hd : t.dot = s.dot) (es : List Event) : isPixelPart t es ↔ isPixelPart s es := by
  simp only [isPixelPart, readByte_congr hgen hraw, hsl, hd]

/-- Settles O46: only the VBlank check, the fetch and the pixel step write events, in this order, and each finds the memories
and the counters of the tick's start. -/
theorem tickEventsComeInOrder : Obligations.TickEventsComeInOrder := by
  intro s t h
  obtain ⟨s3, s5a, s5b, s5c, s5d, s6, h3, ha, hb, hc, hd, h6, h7⟩ := tick_eq_next.1 h
  obtain ⟨-, -, -, -, -, hcheck⟩ := check_cases h3
  obtain ⟨fetch, hfetch, fetchPart⟩ := fetch_events hb
  obtain ⟨pixel, hpixel, pixelPart⟩ := pixel_events h6
  have e3 := vblank_frame h3
  have ea := reload_frame ha
  have eb := (fetch_frame hb).1
  have ec := address_frame hc
  have ed := shift_frame hd
  have hevents : t.events = s3.events ++ fetch ++ pixel := by
    calc t.events = s6.events := by rw [counter_frame h7]
      _ = s5d.events ++ pixel := hpixel
      _ = s5b.events ++ pixel := by rw [ed, ec]
      _ = s5a.events ++ fetch ++ pixel := by rw [hfetch]
      _ = s3.events ++ fetch ++ pixel := by rw [ea]
  have fetchPart' : isFetchPart s fetch := by
    refine (isFetchPart_congr ?_ ?_ fetch).1 fetchPart <;> rw [ea, e3] <;> rfl
  have pixelPart' : isPixelPart s pixel := by
    refine (isPixelPart_congr ?_ ?_ ?_ ?_ pixel).1 pixelPart <;> rw [ed, ec, eb, ea, e3] <;> rfl
  exact ⟨s3.events, fetch, pixel, hevents, hcheck, fetchPart', pixelPart'⟩

/-! ## Unanswered fetch reads (R55) -/

theorem exec_fetchNt (s : State) : exec .fetchNt s = execFetchNt s := rfl
theorem exec_fetchNtDummy (s : State) : exec .fetchNtDummy s = execFetchNtDummy s := rfl
theorem exec_fetchAt (s : State) : exec .fetchAt s = execFetchAt s := rfl
theorem exec_fetchPtlo (s : State) : exec .fetchPtlo s = execFetchPtlo s := rfl
theorem exec_fetchPthiVis (s : State) : exec .fetchPthiVis s = execFetchPthiVis s := rfl
theorem exec_fetchPthiPre (s : State) : exec .fetchPthiPre s = execFetchPthiPre s := rfl

/-- Settles O32: every fetch row is one read and then its latch, so an unanswered read is the row's whole outcome. -/
theorem unansweredFetchFaults : Obligations.UnansweredFetchFaults := by
  intro s
  refine ⟨fun hNt => ⟨?nt, ?dummy⟩, fun hAt => ?attr, fun hPtlo => ?ptlo, fun hVis => ?vis, fun hPre => ?pre⟩
  case nt => exact (exec_fetchNt s).trans (memRead_none hNt _)
  case dummy => exact (exec_fetchNtDummy s).trans (memRead_none hNt _)
  case attr => exact (exec_fetchAt s).trans (memRead_none hAt _)
  case ptlo => exact (exec_fetchPtlo s).trans (memRead_none hPtlo _)
  case vis => exact (exec_fetchPthiVis s).trans (memRead_none hVis _)
  case pre => exact (exec_fetchPthiPre s).trans (memRead_none hPre _)

end Sys2Proof.Machine
end

section
/-! SUPPORT. The encoding statements (30_encoding.md): the line of an instruction parses back to it, each address is its fields
side by side, and the written examples. -/

namespace Sys2Proof

/-! ## Every lexeme of an instruction's line has a text (R91) -/

/-- The table lists every keyword that is no mnemonic. -/
@[simp] theorem Lexeme.kw_written {k : Keyword} (h : ∀ i, k ≠ .mnemonic i) : (Lexeme.kw k).written := by
  change k ∈ keywordTable.map Prod.snd
  cases k with
  | field f => cases f <;> decide
  | elem e => cases e <;> decide
  | stage s => cases s <;> decide
  | mnemonic i => exact absurd rfl (h i)
  | _ => decide

/-- The table lists the mnemonic of every micro-operation. -/
theorem Lexeme.mnemonic_written {i : Instr} (h : i.isHostMove = false) : (Lexeme.kw (.mnemonic i)).written := by
  change Keyword.mnemonic i ∈ keywordTable.map Prod.snd
  cases i <;> simp [Instr.isHostMove] at h <;> decide

/-- HOST_OBSERVE, which has no line of R91's, is written by its mnemonic too. -/
@[simp] theorem Lexeme.hostObserve_written : (Lexeme.kw (.mnemonic .hostObserve)).written := by
  change Keyword.mnemonic .hostObserve ∈ keywordTable.map Prod.snd
  decide

@[simp] theorem Lexeme.num_written (n : Nat) : (Lexeme.num n).written := trivial

@[simp] theorem Lexeme.eq_written : Lexeme.eq.written := trivial

@[simp] theorem Lexeme.comma_written : Lexeme.comma.written := trivial

@[simp] theorem Lexeme.semi_written : Lexeme.semi.written := trivial

@[simp] theorem bitNum_written (b : Bool) : (bitNum b).written := trivial

@[simp] theorem Elem.value_written (e : Elem) (S0 : InitImage) : (e.value S0).written := by
  have flag (b : Bool) : (Lexeme.kw (if b then .yes else .no)).written := by cases b <;> simp
  cases e <;> simp [Elem.value, flag]

theorem initLexemes_written (S0 : InitImage) (es : List Elem) : ∀ l ∈ initLexemes S0 es, l.written := by
  induction es with
  | nil => simp [initLexemes]
  | cons e rest ih => cases rest <;> simp_all [initLexemes]

theorem setPairLexemes_written (f g : EField) (a b : Option Bool) : ∀ l ∈ setPairLexemes f g a b, l.written := by
  cases a <;> cases b <;> simp [setPairLexemes, setLexemes]

theorem Instr.lexemes_written (i : Instr) : ∀ l ∈ i.lexemes, l.written := by
  cases i with
  | hostSetCtrl a b | hostSetMask a b => exact setPairLexemes_written _ _ a b
  | hostPoke view a b => cases view <;> simp [Instr.lexemes]
  | hostReinit S0 => simpa [Instr.lexemes] using initLexemes_written S0 Elem.all
  | advance | hostSetT _ | hostSetFinex _ | hostSetIdle _ | hostClrIrq | hostSetSprflags _ _ | hostObserve =>
    simp [Instr.lexemes, setLexemes]
  | _ => exact List.forall_mem_singleton.2 (Lexeme.mnemonic_written rfl)

/-! ## INIT with every element of an image gives the image -/

/-- The image `S` with the element `e` of `S0`. -/
def Elem.copy (e : Elem) (S0 S : InitImage) : InitImage :=
  match e with
  | .dot => { S with dot := S0.dot }
  | .scanline => { S with scanline := S0.scanline }
  | .v => { S with v := S0.v }
  | .slo => { S with slo := S0.slo }
  | .shi => { S with shi := S0.shi }
  | .alo => { S with alo := S0.alo }
  | .ahi => { S with ahi := S0.ahi }
  | .ntLatch => { S with ntLatch := S0.ntLatch }
  | .atLatch => { S with atLatch := S0.atLatch }
  | .ptLoLatch => { S with ptLoLatch := S0.ptLoLatch }
  | .ptHiLatch => { S with ptHiLatch := S0.ptHiLatch }
  | .ptBase => { S with ptBase := S0.ptBase }
  | .stage => { S with stage := S0.stage }
  | .idle => { S with idle := S0.idle }
  | .cpVis => { S with cpVis := S0.cpVis }
  | .cpPre => { S with cpPre := S0.cpPre }
  | .vblank => { S with vblank := S0.vblank }
  | .irq => { S with irq := S0.irq }
  | .spriteZeroHit => { S with spriteZeroHit := S0.spriteZeroHit }
  | .spriteOverflow => { S with spriteOverflow := S0.spriteOverflow }
  | .frameParity => { S with frameParity := S0.frameParity }

theorem Elem.assign_value (e : Elem) (S0 S : InitImage) : e.assign S (e.value S0) = .ok (e.copy S0 S) := by
  have flag (b : Bool) : bitOf (.kw (if b then .yes else .no)) = .ok b := by cases b <;> rfl
  cases e <;> simp [Elem.assign, Elem.value, Elem.copy, flag, numOf, stageOf, Except.map]

theorem parseInit_initLexemes (S0 S : InitImage) (es : List Elem) :
    parseInit S (initLexemes S0 es) = .ok (es.foldl (fun T e => e.copy S0 T) S) := by
  induction es generalizing S with
  | nil => rfl
  | cons e rest ih =>
    cases rest with
    | nil => exact e.assign_value S0 S
    | cons e' rest' =>
      rw [initLexemes, parseInit, e.assign_value]
      · exact ih (e.copy S0 S)
      · exact List.cons_ne_nil e' rest'

/-- The elements are all that an image without listed cells holds. -/
theorem foldl_copy_all {S0 : InitImage} (h : S0.fb.isEmpty = true) :
    Elem.all.foldl (fun T e => e.copy S0 T) InitImage.refInit = S0 := by
  obtain ⟨⟩ := S0
  obtain rfl := List.isEmpty_iff.1 h
  rfl

/-! ## The line of an instruction parses back to it -/

@[simp] theorem bitOf_bitNum (b : Bool) : bitOf (bitNum b) = .ok b := by cases b <;> rfl

@[simp] theorem pokeMove_toNat (view : Port) (a : Addr) (b : Byte) :
    pokeMove view a.toNat b.toNat = .ok (.hostPoke view a b) := by
  simp [pokeMove, a.isLt, b.isLt]

theorem parseLine_setLexemes (f : EField) (x : Lexeme) : parseLine (setLexemes f x) = (setOne f x).map .move := rfl

theorem parseLine_setLexemes_semi (f g : EField) (x y : Lexeme) :
    parseLine (setLexemes f x ++ .semi :: setLexemes g y) = (setTwo f g x y).map .move := rfl

/-- ADVANCE is written `TICK 1`, any other instruction as the move it is. -/
def Instr.scriptLine (i : Instr) : ScriptLine := if i = .advance then .tick 1 else .move i

theorem parseLine_lexemes {i : Instr} (h : i.scriptable = true) : parseLine i.lexemes = .ok i.scriptLine := by
  cases i with
  | hostSetCtrl a b | hostSetMask a b =>
    cases a <;> cases b
    case none.none => cases h
    all_goals simp [Instr.lexemes, setPairLexemes, parseLine_setLexemes, parseLine_setLexemes_semi, setOne, setTwo,
      Instr.scriptLine, Except.map]
  | hostSetSprflags z o => simp [Instr.lexemes, parseLine, parseArgs, Instr.scriptLine]
  | hostPoke view a b => cases view <;> simp [Instr.lexemes, parseLine, parseArgs, Instr.scriptLine, Except.map]
  | hostReinit S0 =>
    simp [Instr.lexemes, parseLine, parseArgs, parseInit_initLexemes, foldl_copy_all h, Instr.scriptLine, Except.map]
  | _ => rfl

theorem decodeScript_encode {i : Instr} (h : i.scriptable = true) : decodeScript (encode i) = .ok [i.scriptLine] := by
  have hparse := parseLine_lexemes h
  have hwritten := i.lexemes_written
  unfold encode
  revert hparse hwritten
  cases i.lexemes with
  | nil => intro hparse; cases hparse
  | cons l ls =>
    intro hparse hwritten
    rw [decodeScript_render l ls hwritten, hparse]
    rfl

theorem expandScript_scriptLine (sl d : Nat) (i : Instr) : expandScript sl d [i.scriptLine] = .ok [i] := by
  unfold Instr.scriptLine
  split
  case isTrue h => rw [h]; rfl
  case isFalse => rfl

end Sys2Proof

namespace Sys2Proof.Machine

/-! ## The loaded line is the next move -/

theorem loadScript_encode (s : State) {i : Instr} (h : i.scriptable = true) :
    s.loadScript (encode i) = .ok { s with pending := [i] } := by
  simp only [State.loadScript, decodeScript_encode h, expandScript_scriptLine]

theorem step_of_one_pending (s : State) {i : Instr} (h : i.isHostMove = true) :
    step { s with pending := [i] } = exec i { s with pending := [] } := if_pos h

/-- Settles O10: the encoded line is a script of one line, which parses back to the move. -/
theorem loadedLineIsTheNextMove : Obligations.LoadedLineIsTheNextMove :=
  fun s _ hline hmove => ⟨loadScript_encode s hline, step_of_one_pending s hmove⟩

/-! ## Addresses as fields side by side (R80-R85) -/

/-- Fields side by side, as numbers. -/
theorem toNat_append_eq_add {m n : Nat} (x : BitVec m) (y : BitVec n) : (x ++ y).toNat = 2 ^ n * x.toNat + y.toNat := by
  rw [BitVec.toNat_append, ← Nat.shiftLeft_add_eq_or_of_lt y.isLt, Nat.shiftLeft_eq, Nat.mul_comm]

theorem ntAddr_eq_append (v : VReg) : ntAddr v = 0b10#2 ++ v.extractLsb' 0 12 := by
  apply BitVec.eq_of_getLsbD_eq
  intro i hi
  simp only [BitVec.getLsbD_append]
  interval_cases i <;> simp [ntAddr, busAddr]

theorem atAddr_eq_append (v : VReg) :
    atAddr v = 0b10#2 ++ nametableSelect v ++ 0b1111#4 ++ (coarseY v).extractLsb' 2 3 ++ (coarseX v).extractLsb' 2 3 := by
  apply BitVec.eq_of_getLsbD_eq
  intro i hi
  simp only [BitVec.getLsbD_append]
  interval_cases i <;> simp [atAddr, busAddr, nametableSelect, coarseY, coarseX]

theorem ptAddr_eq_append (sel : Bool) (nt : Byte) (v : VReg) :
    ptAddr sel nt v = 0#1 ++ BitVec.ofBool sel ++ nt ++ 0#1 ++ fineY v := by
  apply BitVec.eq_of_getLsbD_eq
  intro i hi
  simp only [BitVec.getLsbD_append]
  cases sel <;> interval_cases i <;> simp [ptAddr, busAddr, fineY]

theorem palAddr_eq_append (index : BitVec 4) : palAddr index = 0x3F0#10 ++ index := by
  apply BitVec.eq_of_getLsbD_eq
  intro i hi
  simp only [BitVec.getLsbD_append]
  interval_cases i <;> simp [palAddr, paletteBase]

theorem ptAddr_toNat (sel : Bool) (nt : Byte) (v : VReg) :
    (ptAddr sel nt v).toNat = 0x1000 * sel.toNat + 16 * nt.toNat + (fineY v).toNat := by
  simp only [ptAddr_eq_append, toNat_append_eq_add, BitVec.toNat_ofNat, BitVec.toNat_ofBool]
  omega

/-- Settles O34: each address is its fields side by side, and the pattern address leaves bit 3 to the 8 of R83. -/
theorem addressesStayInTheirRanges : Obligations.AddressesStayInTheirRanges := by
  intro v sel nt index
  have hpt := ptAddr_toNat sel nt v
  refine ⟨?nt, ?attr, hpt, ?ptHigh, ?pal⟩
  case nt =>
    simp only [ntAddr_eq_append, toNat_append_eq_add, BitVec.extractLsb'_toNat, BitVec.toNat_ofNat]
    omega
  case attr =>
    have := (coarseX v).isLt
    have := (coarseY v).isLt
    simp only [atAddr_eq_append, toNat_append_eq_add, BitVec.extractLsb'_toNat, BitVec.toNat_ofNat, Nat.shiftRight_eq_div_pow]
    omega
  case ptHigh =>
    have := nt.isLt
    have := (fineY v).isLt
    have := sel.toNat_lt
    rw [ptHighAddr, BitVec.toNat_add, BitVec.toNat_ofNat]
    omega
  case pal =>
    simp only [palAddr_eq_append, toNat_append_eq_add, BitVec.toNat_ofNat]
    omega

/-! ## The written examples -/

/-- Settles O1: each line and each word is a closed term, and the decoder evaluates it. -/
theorem writtenLinesDecode : Obligations.WrittenLinesDecode := by
  unfold Obligations.WrittenLinesDecode
  decide

end Sys2Proof.Machine
end

section
/-! SUPPORT. The scheduler statements (40_scheduler.md): the counters and the parity of one tick and of any number of them, the
tick with VBlank active, and that a booted machine completes every tick. -/

namespace Sys2Proof.Machine

/-! ## The rows the scheduler runs by themselves (R101, R102, R107, R108) -/

theorem exec_advance (s : State) : exec .advance s = execAdvance s := rfl
theorem exec_tickMask (s : State) : exec .tickMask s = execTickMask s := rfl
theorem exec_snapshot (s : State) : exec .snapshot s = execSnapshot s := rfl
theorem exec_counterAdvance (s : State) : exec .counterAdvance s = execCounterAdvance s := rfl
theorem exec_parityToggle (s : State) : exec .parityToggle s = execParityToggle s := rfl

/-- Settles O15: each of the three rows replaces its one field by definition. -/
theorem maskSampleParityResults : Obligations.MaskSampleParityResults :=
  fun s => ⟨exec_tickMask s, exec_snapshot s, exec_parityToggle s⟩

/-- Settles O16: COUNTER_ADVANCE counts up, and the counter step is the one step of a tick that moves the counters. -/
theorem countersAdvanceEveryTick : Obligations.CountersAdvanceEveryTick := by
  refine ⟨fun s => (exec_counterAdvance s).trans (execCounterAdvance_eq s), fun s t h => ?_⟩
  obtain ⟨-, -, -, -, -, -, hdot, hscanline⟩ := tick_frame h
  exact ⟨hdot, hscanline⟩

/-! ## Steps that do nothing (R103, R105) -/

theorem vblank_step_elsewhere {sl d : Nat} (hset : ¬(sl = 241 ∧ d = 1)) (hclear : ¬(sl = 261 ∧ d = 1)) (s : State) :
    stepOf .vblankCheck sl d s = .next s := by
  rw [vblank_step, if_neg hset, if_neg hclear]

theorem reload_step_of_closed {sl d : Nat} {s : State} (h : gateAt sl d s = false) :
    stepOf .reload sl d s = .next s := by simp [reload_step, h]

theorem fetch_step_of_closed {sl d : Nat} {s : State} (h : gateAt sl d s = false) :
    stepOf .fetch sl d s = .next s := by simp [fetch_step, h]

theorem address_step_of_closed {sl d : Nat} {s : State} (h : gateAt sl d s = false) :
    stepOf .address sl d s = .next s := by simp [address_step, h]

theorem shift_step_of_closed {sl d : Nat} {s : State} (h : gateAt sl d s = false) :
    stepOf .shift sl d s = .next s := by simp [shift_step, h]

theorem pixel_step_of_vblank {sl d : Nat} {s : State} (h : s.vblank = true) : stepOf .pixel sl d s = .next s := by
  simp [pixel_step, h]

theorem gateAt_of_vblank (sl d : Nat) {s : State} (h : s.vblank = true) : gateAt sl d s = false := by
  simp [gateAt_eq, h]

/-- A tick with VBlank active, away from the two ticks of the VBlank check, samples and counts. -/
theorem tick_of_vblank {s : State} (hv : s.vblank = true) (hset : ¬(s.scanline = 241 ∧ s.dot = 1))
    (hclear : ¬(s.scanline = 261 ∧ s.dot = 1)) :
    execAdvance s = stepOf .counter s.scanline s.dot s.sampled := by
  have hv' : s.sampled.vblank = true := hv
  have hclosed := gateAt_of_vblank s.scanline s.dot hv'
  rw [counter_step]
  exact tick_eq_next.2 ⟨_, _, _, _, _, _, vblank_step_elsewhere hset hclear _, reload_step_of_closed hclosed,
    fetch_step_of_closed hclosed, address_step_of_closed hclosed, shift_step_of_closed hclosed,
    pixel_step_of_vblank hv', counter_step ..⟩

/-- Settles O19: VBlank closes both gates, so that only the sample and the counter step are left. -/
theorem vblankTickMovesOnlyTheCounters : Obligations.VblankTickMovesOnlyTheCounters := by
  intro s hv hset hclear hmask
  rw [exec_advance, tick_of_vblank hv hset hclear, counter_step]
  by_cases hlast : s.scanline = 261 ∧ s.dot = 340 <;>
    simp [hlast, hmask, State.sampled, State.countUp, nextDot, nextScanline]

/-! ## A booted machine completes every tick (70_reset_and_hazards.md R262) -/

/-- The boot requirements rest on the two memories and the status port alone. -/
theorem booted_congr {s t : State} (hgen : t.gen = s.gen) (hraw : t.raw = s.raw)
    (haccepts : t.statusAccepts = s.statusAccepts) : t.booted ↔ s.booted := by
  simp only [State.booted, readByte_congr hgen hraw, haccepts]

theorem booted_readByte {s : State} (hb : s.booted) (p : Port) (a : Addr) : ∃ b, s.readByte p a = some b :=
  by
  obtain ⟨hreads, -, -⟩ := hb
  exact Option.isSome_iff_exists.1 (hreads p a)

theorem booted_palette {s : State} (hb : s.booted) {a : Addr} (ha : 0x3F00 ≤ a.toNat) :
    ∃ b color, s.readByte .generic a = some b ∧ s.rgbEntry b = some color := by
  obtain ⟨b, hread⟩ := booted_readByte hb .generic a
  obtain ⟨-, hpalette, -⟩ := hb
  exact ⟨b, _, hread, rgbEntry_eq_some (hpalette a ha b hread)⟩

theorem vblank_step_completes {s : State} (haccepts : s.statusAccepts = true) (sl d : Nat) :
    ∃ t, stepOf .vblankCheck sl d s = .next t := by
  rw [vblank_step]
  split
  · exact ⟨_, rfl⟩
  · split
    · exact ⟨_, if_pos haccepts⟩
    · exact ⟨_, rfl⟩

theorem reload_step_completes (sl d : Nat) (s : State) : ∃ t, stepOf .reload sl d s = .next t := by
  rw [reload_step]
  split <;> exact ⟨_, rfl⟩

/-- A read followed by a latch completes where it is answered. -/
theorem memRead_completes {s : State} (hb : s.booted) (p : Port) (a : Addr) (k : Byte → State → State) :
    ∃ t, (memRead p a s fun b s' => .next (k b s')) = .next t := by
  obtain ⟨b, hread⟩ := booted_readByte hb p a
  exact ⟨_, memRead_some hread _⟩

theorem fetch_step_completes {s : State} (hb : s.booted) (sl d : Nat) : ∃ t, stepOf .fetch sl d s = .next t := by
  rw [fetch_step]
  split
  case isTrue => exact ⟨_, rfl⟩
  split
  case isTrue => exact ⟨_, rfl⟩
  split
  case isTrue => exact ⟨_, rfl⟩
  split
  case isTrue => exact memRead_completes hb ..
  split
  case h_4 => split <;> exact memRead_completes hb ..
  all_goals exact memRead_completes hb ..

theorem address_step_completes (sl d : Nat) (s : State) : ∃ t, stepOf .address sl d s = .next t := by
  rw [address_step]
  repeat' split
  all_goals exact ⟨_, rfl⟩

theorem shift_step_completes (sl d : Nat) (s : State) : ∃ t, stepOf .shift sl d s = .next t := by
  rw [shift_step]
  split <;> exact ⟨_, rfl⟩

theorem pixel_step_completes {s : State} (hb : s.booted) : ∃ t, stepOf .pixel s.scanline s.dot s = .next t := by
  rw [pixel_step]
  split
  · next hgate =>
    obtain ⟨b, color, hread, hcolor⟩ := booted_palette hb (pixelAddr_range s)
    have hwindow : writeWindow s.scanline s.dot = true := (Bool.and_eq_true_iff.1 hgate).2
    exact ⟨_, execPixelEmit_eq_next.2 ⟨hwindow, b, color, hread, hcolor, rfl⟩⟩
  · exact ⟨_, rfl⟩

/-- The steps before the pixel keep the memories, the status port and the counters, so that each finds the machine
booted and the pixel step finds the tick's own coordinates. -/
theorem tick_completes {s : State} (hb : s.booted) : ∃ t, execAdvance s = .next t := by
  have ⟨_, _, haccepts⟩ := hb
  obtain ⟨s3, h3⟩ := vblank_step_completes (s := s.sampled) haccepts s.scanline s.dot
  obtain ⟨s5a, ha⟩ := reload_step_completes s.scanline s.dot s3
  have e3 := vblank_frame h3
  have ea := reload_frame ha
  have hba : s5a.booted := (booted_congr (by rw [ea, e3]; rfl) (by rw [ea, e3]; rfl) (by rw [ea, e3]; rfl)).2 hb
  obtain ⟨s5b, hfetch⟩ := fetch_step_completes hba s.scanline s.dot
  obtain ⟨s5c, hc⟩ := address_step_completes s.scanline s.dot s5b
  obtain ⟨s5d, hd⟩ := shift_step_completes s.scanline s.dot s5c
  have eb := (fetch_frame hfetch).1
  have ec := address_frame hc
  have ed := shift_frame hd
  have hbd : s5d.booted := (booted_congr (by rw [ed, ec, eb]) (by rw [ed, ec, eb]) (by rw [ed, ec, eb])).2 hba
  have hsl : s5d.scanline = s.scanline := by rw [ed, ec, eb, ea, e3]; rfl
  have hdot : s5d.dot = s.dot := by rw [ed, ec, eb, ea, e3]; rfl
  obtain ⟨s6, h6⟩ := pixel_step_completes hbd
  rw [hsl, hdot] at h6
  exact ⟨_, tick_eq_next.2 ⟨s3, s5a, s5b, s5c, s5d, s6, h3, ha, hfetch, hc, hd, h6, counter_step ..⟩⟩

theorem tick_booted {s t : State} (hb : s.booted) (h : execAdvance s = .next t) : t.booted := by
  obtain ⟨-, hgen, hraw, haccepts, -⟩ := tick_frame h
  exact (booted_congr hgen hraw haccepts).2 hb

/-! ## Runs of ticks -/

theorem ticks_succ_eq_next {n : Nat} {s t : State} :
    ticks (n + 1) s = .next t ↔ ∃ u, execAdvance s = .next u ∧ ticks n u = .next t := andThen_eq_next

theorem ticks_complete (n : Nat) {s : State} (hb : s.booted) : ∃ t, ticks n s = .next t ∧ t.booted := by
  induction n generalizing s with
  | zero => exact ⟨s, rfl, hb⟩
  | succ n ih =>
    obtain ⟨u, hu⟩ := tick_completes hb
    obtain ⟨t, ht, hbt⟩ := ih (tick_booted hb hu)
    exact ⟨t, ticks_succ_eq_next.2 ⟨u, hu, ht⟩, hbt⟩

/-- The parity bit toggles in the tick (261, 340) and in no other (R108; D21). -/
theorem tick_frameParity {s t : State} (h : execAdvance s = .next t) :
    t.frameParity = if s.scanline = 261 ∧ s.dot = 340 then s.frameParity ^^^ 1#1 else s.frameParity := by
  obtain ⟨s3, s5a, s5b, s5c, s5d, s6, h3, ha, hb, hc, hd, h6, h7⟩ := tick_eq_next.1 h
  have hkept : s6.frameParity = s.frameParity := by
    rw [pixel_frame h6, shift_frame hd, address_frame hc, (fetch_frame hb).1, reload_frame ha, vblank_frame h3]
    rfl
  rw [counter_step] at h7
  cases h7
  split <;> simp [State.countUp, hkept]

/-! ## The place in the frame (R107, R111)

A tick moves the machine from place `p` of the frame's 89342 to place `p + 1`, the last one to the first. -/

theorem framePos_lt {s : State} (hc : s.countersOk) : framePos s.scanline s.dot < 89342 := by
  obtain ⟨hdot, hscanline⟩ := hc
  unfold framePos
  omega

/-- Counters in range are their place in the frame. -/
theorem counters_eq_of_framePos {s t : State} (hs : s.countersOk) (ht : t.countersOk)
    (h : framePos t.scanline t.dot = framePos s.scanline s.dot) : t.dot = s.dot ∧ t.scanline = s.scanline := by
  obtain ⟨hsd, hss⟩ := hs
  obtain ⟨htd, hts⟩ := ht
  unfold framePos at h
  omega

theorem tick_countersOk {s t : State} (hc : s.countersOk) (h : execAdvance s = .next t) : t.countersOk := by
  obtain ⟨-, -, -, -, -, -, hdot, hscanline⟩ := tick_frame h
  obtain ⟨hd, hs⟩ := hc
  rw [State.countersOk, hdot, hscanline, nextDot, nextScanline]
  split <;> omega

theorem tick_framePos {s t : State} (hc : s.countersOk) (h : execAdvance s = .next t) :
    framePos t.scanline t.dot = (framePos s.scanline s.dot + 1) % 89342 := by
  obtain ⟨-, -, -, -, -, -, hdot, hscanline⟩ := tick_frame h
  obtain ⟨hd, hs⟩ := hc
  rw [hdot, hscanline, nextDot, nextScanline]
  unfold framePos
  split <;> omega

/-- Xor of two bits is their sum. -/
theorem xor_eq_add (x y : BitVec 1) : x ^^^ y = x + y := by
  revert x y
  decide

/-- The parity counts the frames a tick ends, of which there is one or none. -/
theorem tick_frameParity_eq_add {s t : State} (hc : s.countersOk) (h : execAdvance s = .next t) :
    t.frameParity = s.frameParity + BitVec.ofNat 1 ((framePos s.scanline s.dot + 1) / 89342) := by
  obtain ⟨hd, hs⟩ := hc
  rw [tick_frameParity h, xor_eq_add]
  unfold framePos
  split
  · next hlast => rw [hlast.1, hlast.2]
  · next hnot =>
    have hnone : (s.scanline * 341 + s.dot + 1) / 89342 = 0 := by omega
    rw [hnone, BitVec.add_zero]

theorem ticks_countersOk {n : Nat} {s t : State} (hc : s.countersOk) (h : ticks n s = .next t) : t.countersOk := by
  induction n generalizing s with
  | zero => cases h; exact hc
  | succ n ih =>
    obtain ⟨u, hu, hrest⟩ := ticks_succ_eq_next.1 h
    exact ih (tick_countersOk hc hu) hrest

theorem ticks_framePos {n : Nat} {s t : State} (hc : s.countersOk) (h : ticks n s = .next t) :
    framePos t.scanline t.dot = (framePos s.scanline s.dot + n) % 89342 := by
  induction n generalizing s with
  | zero =>
    cases h
    rw [Nat.add_zero, Nat.mod_eq_of_lt (framePos_lt hc)]
  | succ n ih =>
    obtain ⟨u, hu, hrest⟩ := ticks_succ_eq_next.1 h
    rw [ih (tick_countersOk hc hu) hrest, tick_framePos hc hu]
    omega

/-- Over any number of ticks the parity counts the frames that end. -/
theorem ticks_frameParity {n : Nat} {s t : State} (hc : s.countersOk) (h : ticks n s = .next t) :
    t.frameParity = s.frameParity + BitVec.ofNat 1 ((framePos s.scanline s.dot + n) / 89342) := by
  induction n generalizing s with
  | zero =>
    cases h
    rw [Nat.add_zero, Nat.div_eq_of_lt (framePos_lt hc), BitVec.add_zero]
  | succ n ih =>
    obtain ⟨u, hu, hrest⟩ := ticks_succ_eq_next.1 h
    have hframes (p : Nat) : (p + 1) / 89342 + ((p + 1) % 89342 + n) / 89342 = (p + (n + 1)) / 89342 := by omega
    rw [ih (tick_countersOk hc hu) hrest, tick_framePos hc hu, tick_frameParity_eq_add hc hu, BitVec.add_assoc,
      ← BitVec.ofNat_add, hframes]

/-- Settles O50: 89342 ticks complete, end at the same place of the frame, and end one frame. -/
theorem frameOfTicksReturnsTheCounters : Obligations.FrameOfTicksReturnsTheCounters := by
  intro s hb hc
  obtain ⟨t, ht, hbt⟩ := ticks_complete 89342 hb
  have hlt := framePos_lt hc
  have hplace : framePos t.scanline t.dot = framePos s.scanline s.dot := by
    rw [ticks_framePos hc ht]
    omega
  have hframes : (framePos s.scanline s.dot + 89342) / 89342 = 1 := by omega
  obtain ⟨hdot, hscanline⟩ := counters_eq_of_framePos hc (ticks_countersOk hc ht) hplace
  have hparity : t.frameParity = s.frameParity ^^^ 1#1 := by
    rw [ticks_frameParity hc ht, hframes, xor_eq_add]
  exact ⟨t, ht, hdot, hscanline, hparity, hbt⟩

end Sys2Proof.Machine
end

section
/-! SUPPORT. The address pathway statements (41_address_pathway.md): the fields of `v` after each increment and each copy. -/

namespace Sys2Proof.Machine

theorem exec_incFineY (s : State) : exec .incFineY s = execIncFineY s := rfl
theorem exec_incCoarseXVis (s : State) : exec .incCoarseXVis s = execIncCoarseXVis s := rfl
theorem exec_incCoarseXPre (s : State) : exec .incCoarseXPre s = execIncCoarseXPre s := rfl
theorem exec_copyH (s : State) : exec .copyH s = execCopyH s := rfl
theorem exec_copyV (s : State) : exec .copyV s = execCopyV s := rfl
theorem exec_cpReset (s : State) : exec .cpReset s = execCpReset s := rfl

/-! ## Coarse Y counts up (R120) -/

theorem nextCoarseY_of_wrap {v : VReg} (h : coarseY v = 29#5) : nextCoarseY v = setCoarseY v 0#5 ^^^ 0x0800#15 :=
  if_pos h

theorem nextCoarseY_of_corrupt {v : VReg} (h : coarseY v = 31#5) : nextCoarseY v = setCoarseY v 0#5 := by
  have hwrap : coarseY v ≠ coarseYWrap := by rw [h]; decide
  exact (if_neg hwrap).trans (if_pos h)

theorem nextCoarseY_of_ne {v : VReg} (hwrap : coarseY v ≠ 29#5) (hcorrupt : coarseY v ≠ 31#5) :
    nextCoarseY v = setCoarseY v (coarseY v + 1#5) :=
  (if_neg hwrap).trans (if_neg hcorrupt)

/-- Each case of the coarse-Y count leaves coarse X, `v[10]` and fine Y alone. -/
theorem nextCoarseY_frame (v : VReg) :
    coarseX (nextCoarseY v) = coarseX v ∧ ntH (nextCoarseY v) = ntH v ∧ fineY (nextCoarseY v) = fineY v := by
  unfold nextCoarseY
  split
  case isTrue => simp
  split <;> simp

/-! ## INC_FINE_Y (R120) -/

theorem incY_of_fineY_ne {v : VReg} (h : fineY v ≠ 7#3) : incY v = v + 0x1000#15 := if_pos h

theorem incY_of_fineY_eq {v : VReg} (h : fineY v = 7#3) : incY v = nextCoarseY (setFineY v 0#3) := if_neg (not_not.2 h)

/-- Below 7 fine Y counts up inside its field. -/
theorem incY_fields_of_fineY_ne {v : VReg} (h : fineY v ≠ 7#3) :
    fineY (incY v) = fineY v + 1#3 ∧ coarseX (incY v) = coarseX v ∧ coarseY (incY v) = coarseY v ∧
    ntH (incY v) = ntH v ∧ ntV (incY v) = ntV v := by
  obtain ⟨hfineY, hcoarseX, hcoarseY, hnt⟩ := fields_add_fineY h
  rw [incY_of_fineY_ne h]
  exact ⟨hfineY, hcoarseX, hcoarseY, ntH_of_nametableSelect hnt, ntV_of_nametableSelect hnt⟩

/-- At 7 fine Y becomes 0, and what else moves is the coarse-Y half of the register. -/
theorem incY_fields_of_fineY_eq {v : VReg} (h : fineY v = 7#3) :
    fineY (incY v) = 0#3 ∧ coarseX (incY v) = coarseX v ∧ ntH (incY v) = ntH v := by
  obtain ⟨hcoarseX, hntH, hfineY⟩ := nextCoarseY_frame (setFineY v 0#3)
  rw [incY_of_fineY_eq h, hfineY, hcoarseX, hntH]
  simp

/-- INC_FINE_Y leaves the horizontal fields alone. -/
theorem incY_keeps_horizontal (v : VReg) : coarseX (incY v) = coarseX v ∧ ntH (incY v) = ntH v := by
  by_cases h : fineY v = 7#3
  · obtain ⟨-, hkept⟩ := incY_fields_of_fineY_eq h
    exact hkept
  · obtain ⟨-, hcoarseX, -, hntH, -⟩ := incY_fields_of_fineY_ne h
    exact ⟨hcoarseX, hntH⟩

theorem incY_coarseY_of_wrap {v : VReg} (hf : fineY v = 7#3) (hc : coarseY v = 29#5) :
    coarseY (incY v) = 0#5 ∧ ntV (incY v) = !ntV v := by
  rw [incY_of_fineY_eq hf, nextCoarseY_of_wrap (by simpa using hc)]
  simp

theorem incY_coarseY_of_corrupt {v : VReg} (hf : fineY v = 7#3) (hc : coarseY v = 31#5) :
    coarseY (incY v) = 0#5 ∧ ntV (incY v) = ntV v := by
  rw [incY_of_fineY_eq hf, nextCoarseY_of_corrupt (by simpa using hc)]
  simp

theorem incY_coarseY_of_ne {v : VReg} (hf : fineY v = 7#3) (hwrap : coarseY v ≠ 29#5) (hcorrupt : coarseY v ≠ 31#5) :
    coarseY (incY v) = coarseY v + 1#5 ∧ ntV (incY v) = ntV v := by
  rw [incY_of_fineY_eq hf, nextCoarseY_of_ne (by simpa using hwrap) (by simpa using hcorrupt)]
  simp

/-- Settles O26: the register is `incY` of the old one, whose fields follow fine Y and then coarse Y. -/
theorem fineYIncrementResult : Obligations.FineYIncrementResult := by
  intro s
  obtain ⟨hcoarseX, hntH⟩ := incY_keeps_horizontal s.v
  refine ⟨incY s.v, exec_incFineY s, hcoarseX, hntH, fun hne => ?below, fun heq => ?atSeven⟩
  case below =>
    obtain ⟨hfineY, -, hcoarseY, -, hntV⟩ := incY_fields_of_fineY_ne hne
    exact ⟨hfineY, hcoarseY, hntV⟩
  case atSeven =>
    obtain ⟨hfineY, -⟩ := incY_fields_of_fineY_eq heq
    exact ⟨hfineY, incY_coarseY_of_wrap heq, incY_coarseY_of_corrupt heq, incY_coarseY_of_ne heq⟩

/-! ## INC_COARSE_X_VIS and INC_COARSE_X_PRE (R124-R126) -/

/-- Coarse X 31 becomes 0 and toggles `v[10]`. -/
theorem incX_fields_of_eq {v : VReg} (h : coarseX v = 31#5) :
    coarseX (incX v) = 0#5 ∧ ntH (incX v) = (!ntH v) ∧ coarseY (incX v) = coarseY v ∧ ntV (incX v) = ntV v ∧
    fineY (incX v) = fineY v := by
  have hincX : incX v = (v &&& ~~~0x001F#15) ^^^ 0x0400#15 := if_pos h
  have hfull5 (x : BitVec 5) : x &&& 31#5 = x := BitVec.and_allOnes
  have hfull3 (x : BitVec 3) : x &&& 7#3 = x := BitVec.and_allOnes
  rw [hincX]
  simp [coarseX, coarseY, ntH, ntV, fineY, BitVec.extractLsb'_xor, BitVec.extractLsb'_and, hfull5, hfull3]

/-- Any other coarse X counts up inside its field. -/
theorem incX_fields_of_ne {v : VReg} (h : coarseX v ≠ 31#5) :
    coarseX (incX v) = coarseX v + 1#5 ∧ ntH (incX v) = ntH v ∧ coarseY (incX v) = coarseY v ∧
    ntV (incX v) = ntV v ∧ fineY (incX v) = fineY v := by
  have hincX : incX v = v + 1#15 := if_neg h
  obtain ⟨hcoarseX, hfineY, hcoarseY, hnt⟩ := fields_add_coarseX h
  rw [hincX]
  exact ⟨hcoarseX, ntH_of_nametableSelect hnt, hcoarseY, ntV_of_nametableSelect hnt, hfineY⟩

theorem incX_keeps_vertical (v : VReg) :
    coarseY (incX v) = coarseY v ∧ ntV (incX v) = ntV v ∧ fineY (incX v) = fineY v := by
  by_cases h : coarseX v = 31#5
  · obtain ⟨-, -, hkept⟩ := incX_fields_of_eq h
    exact hkept
  · obtain ⟨-, -, hkept⟩ := incX_fields_of_ne h
    exact hkept

/-- Settles O27: both rows write `incX` of the old register, and each moves its own checkpoint by the stride. -/
theorem coarseXIncrementResults : Obligations.CoarseXIncrementResults := by
  intro s
  obtain ⟨hcoarseY, hntV, hfineY⟩ := incX_keeps_vertical s.v
  refine ⟨incX s.v, exec_incCoarseXVis s, exec_incCoarseXPre s, hcoarseY, hntV, hfineY, fun heq => ?wrap, fun hne => ?up⟩
  case wrap =>
    obtain ⟨hcoarseX, hntH, -⟩ := incX_fields_of_eq heq
    exact ⟨hcoarseX, hntH⟩
  case up =>
    obtain ⟨hcoarseX, hntH, -⟩ := incX_fields_of_ne hne
    exact ⟨hcoarseX, hntH⟩

/-! ## The copies and CP_RESET (R121-R123) -/

/-- A field inside the mask is taken from `t`. -/
theorem extractLsb'_copyBits_of_masked {mask : VReg} {start len : Nat}
    (h : ∀ i < len, mask.getLsbD (start + i) = true) (v t : VReg) :
    (copyBits mask v t).extractLsb' start len = t.extractLsb' start len := by
  apply BitVec.eq_of_getLsbD_eq
  intro i hi
  simp only [BitVec.getLsbD_extractLsb', getLsbD_copyBits, h i hi, if_true]

/-- A field outside the mask is kept. -/
theorem extractLsb'_copyBits_of_unmasked {mask : VReg} {start len : Nat}
    (h : ∀ i < len, mask.getLsbD (start + i) = false) (v t : VReg) :
    (copyBits mask v t).extractLsb' start len = v.extractLsb' start len := by
  apply BitVec.eq_of_getLsbD_eq
  intro i hi
  simp only [BitVec.getLsbD_extractLsb', getLsbD_copyBits, h i hi, Bool.false_eq_true, if_false]

/-- The horizontal mask covers coarse X and `v[10]` (30_encoding.md R71). -/
theorem copyBits_horizontal_fields (v t : VReg) :
    coarseX (copyBits horizontalMask v t) = coarseX t ∧ ntH (copyBits horizontalMask v t) = ntH t ∧
    coarseY (copyBits horizontalMask v t) = coarseY v ∧ ntV (copyBits horizontalMask v t) = ntV v ∧
    fineY (copyBits horizontalMask v t) = fineY v :=
  ⟨extractLsb'_copyBits_of_masked (by decide) v t, getLsbD_copyBits .., extractLsb'_copyBits_of_unmasked (by decide) v t,
    getLsbD_copyBits .., extractLsb'_copyBits_of_unmasked (by decide) v t⟩

/-- The vertical mask covers coarse Y, `v[11]` and fine Y (30_encoding.md R71). -/
theorem copyBits_vertical_fields (v t : VReg) :
    coarseY (copyBits verticalMask v t) = coarseY t ∧ ntV (copyBits verticalMask v t) = ntV t ∧
    fineY (copyBits verticalMask v t) = fineY t ∧ coarseX (copyBits verticalMask v t) = coarseX v ∧
    ntH (copyBits verticalMask v t) = ntH v :=
  ⟨extractLsb'_copyBits_of_masked (by decide) v t, getLsbD_copyBits .., extractLsb'_copyBits_of_masked (by decide) v t,
    extractLsb'_copyBits_of_unmasked (by decide) v t, getLsbD_copyBits ..⟩

/-- Settles O28: each copy takes the fields of its mask from the sampled register and keeps the others. -/
theorem copyResults : Obligations.CopyResults := by
  intro s
  obtain ⟨hX, hH, hkeptY, hkeptV, hkeptFine⟩ := copyBits_horizontal_fields s.v s.snap.t
  obtain ⟨hY, hV, hFine, hkeptX, hkeptH⟩ := copyBits_vertical_fields s.v s.snap.t
  exact ⟨copyBits horizontalMask s.v s.snap.t, copyBits verticalMask s.v s.snap.t, exec_copyH s, hX, hH, hkeptY, hkeptV,
    hkeptFine, exec_copyV s, hY, hV, hFine, hkeptX, hkeptH, exec_cpReset s⟩

/-- A second copy from the same register changes no bit. -/
theorem copyBits_copyBits (mask v t : VReg) : copyBits mask (copyBits mask v t) t = copyBits mask v t := by
  apply BitVec.eq_of_getLsbD_eq
  intro i _
  rw [getLsbD_copyBits]
  split
  case isTrue hmask => rw [getLsbD_copyBits, if_pos hmask]
  case isFalse => rfl

/-- Settles O29: the first copy keeps the sampled register, so the second copies the same bits again. -/
theorem copiesAreIdempotent : Obligations.CopiesAreIdempotent := by
  intro s
  constructor
  · rw [exec_copyH, execCopyH, andThen_next, exec_copyH, execCopyH, copyBits_copyBits]
  · rw [exec_copyV, execCopyV, andThen_next, exec_copyV, execCopyV, copyBits_copyBits]

end Sys2Proof.Machine
end

section
/-! SUPPORT. The fetch pipeline statements (42_fetch_pipeline.md): what each row does, and the schedule of a rendered line as
four stretches of ticks: the fetches up to dot 256, the stall from dot 257, the prefetch from dot 321, and the dummy reads. -/

namespace Sys2Proof.Machine

/-! ## The rows by themselves (R140-R150) -/

theorem exec_fetchIdle (s : State) : exec .fetchIdle s = execFetchIdle s := rfl
theorem exec_fetchStall257 (s : State) : exec .fetchStall257 s = execFetchStall257 s := rfl

/-- Settles O30: each of the two rows replaces the idle counter by definition. -/
theorem idleAndStallResults : Obligations.IdleAndStallResults :=
  fun s => ⟨exec_fetchIdle s, exec_fetchStall257 s⟩

/-- Settles O31: every fetch row is one read and then its latch, so the answered byte goes to the latch. -/
theorem answeredFetchResults : Obligations.AnsweredFetchResults := by
  intro s b
  refine ⟨fun hNt => ⟨?nt, ?dummy⟩, fun hAt => ?attr, fun hPtlo => ?ptlo, fun hVis => ?vis, fun hPre => ?pre⟩
  case nt => exact (exec_fetchNt s).trans (memRead_some hNt _)
  case dummy => exact (exec_fetchNtDummy s).trans (memRead_some hNt _)
  case attr => exact (exec_fetchAt s).trans (memRead_some hAt _)
  case ptlo => exact (exec_fetchPtlo s).trans (memRead_some hPtlo _)
  case vis => exact (exec_fetchPthiVis s).trans (memRead_some hVis _)
  case pre => exact (exec_fetchPthiPre s).trans (memRead_some hPre _)

theorem portOf_beq_raw (s : State) (st : Stage) : (s.portOf st == .raw) = RawStages.holds s.params.rawStages st := by
  unfold State.portOf
  cases RawStages.holds s.params.rawStages st <;> rfl

/-- Settles O33: each of the six values of the parameter is a pair of stages. -/
theorem exactlyTwoStagesReadTheRawPort : Obligations.ExactlyTwoStagesReadTheRawPort := by
  intro s
  simp only [portOf_beq_raw]
  cases s.params.rawStages <;> rfl

/-! ## Runs of ticks with their events (R264) -/

/-- `n` ticks lead from `s` to `t` and leave the events `es`. -/
structure Runs (n : Nat) (s : State) (es : List Event) (t : State) : Prop where
  ticks_eq : ticks n s = .next t
  log_eq : (eventLog n s).flatten = es

theorem eventLog_succ {s u : State} (h : execAdvance s = .next u) (n : Nat) :
    eventLog (n + 1) s = u.events :: eventLog n u := by
  simp [eventLog, exec_advance, h]

theorem Runs.refl (s : State) : Runs 0 s [] s := ⟨rfl, rfl⟩

theorem Runs.cons {n : Nat} {s u t : State} {es : List Event} (h : execAdvance s = .next u) (hrun : Runs n u es t) :
    Runs (n + 1) s (u.events ++ es) t := by
  obtain ⟨hticks, rfl⟩ := hrun
  exact ⟨ticks_succ_eq_next.2 ⟨u, h, hticks⟩, by rw [eventLog_succ h, List.flatten_cons]⟩

theorem Runs.one {s t : State} (h : execAdvance s = .next t) : Runs 1 s t.events t := by
  simpa using Runs.cons h (.refl t)

theorem Runs.trans {m n : Nat} {s u t : State} {es fs : List Event} (h : Runs m s es u) (h' : Runs n u fs t) :
    Runs (m + n) s (es ++ fs) t := by
  induction m generalizing s es with
  | zero =>
    obtain ⟨hticks, rfl⟩ := h
    cases hticks
    simpa [eventLog] using h'
  | succ m ih =>
    obtain ⟨hticks, rfl⟩ := h
    obtain ⟨v, hv, hrest⟩ := ticks_succ_eq_next.1 hticks
    rw [eventLog_succ hv, List.flatten_cons, List.append_assoc, Nat.add_right_comm]
    exact .cons hv (ih ⟨hrest, rfl⟩)

theorem Runs.snoc {n : Nat} {s u t : State} {es : List Event} (hrun : Runs n s es u) (h : execAdvance u = .next t) :
    Runs (n + 1) s (es ++ t.events) t := hrun.trans (.one h)

theorem ticks_booted {n : Nat} {s t : State} (hb : s.booted) (h : ticks n s = .next t) : t.booted := by
  obtain ⟨t', ht', hbt⟩ := ticks_complete n hb
  cases ht'.symm.trans h
  exact hbt

/-! ## A line with the gate open -/

/-- The state stands at dot `d` of the rendered line `sl` with VBlank off at its tick, the inputs `e` and rendering
enabled; dot 341 is dot 0 of the next line. -/
structure RendersAt (e : Snapshot) (sl d : Nat) (s : State) : Prop where
  dot : s.dot = d % 341
  scanline : s.scanline = (sl + d / 341) % 262
  line : renderLine sl = true
  ext : s.ext = e
  enabled : e.renderingEnabled = true
  noVblank : s.vblankAfterCheck = false

theorem renderLine_iff (sl : Nat) : renderLine sl = true ↔ sl ≤ 239 ∨ sl = 261 := by simp [renderLine]

variable {e : Snapshot} {sl d : Nat} {s t : State}

theorem RendersAt.at_dot (hr : RendersAt e sl d s) (hd : d < 341) : s.dot = d ∧ s.scanline = sl := by
  have hline := (renderLine_iff sl).1 hr.line
  have hdot := hr.dot
  have hscanline := hr.scanline
  omega

theorem RendersAt.gateHolds (hr : RendersAt e sl d s) (hd : d < 341) : s.gateHolds = true := by
  obtain ⟨-, hscanline⟩ := hr.at_dot hd
  simp [State.gateHolds, hr.noVblank, hr.ext, hr.enabled, hscanline, hr.line]

/-- VBlank is decided by the check of the tick alone (45_vblank.md R210, R212). -/
theorem tick_vblank (h : execAdvance s = .next t) : t.vblank = s.vblankAfterCheck := by
  obtain ⟨s3, s5a, s5b, s5c, s5d, s6, h3, ha, hb, hc, hd, h6, h7⟩ := tick_eq_next.1 h
  obtain ⟨hvblank, -⟩ := check_cases h3
  have hkept : t.vblank = s3.vblank := by
    rw [counter_frame h7, pixel_frame h6, shift_frame hd, address_frame hc, (fetch_frame hb).1, reload_frame ha]
  exact hkept.trans hvblank

theorem vblankAfterCheck_of_false (hv : s.vblank = false) (hset : ¬(s.scanline = 241 ∧ s.dot = 1)) :
    s.vblankAfterCheck = false := by simp [State.vblankAfterCheck, hv, hset]

theorem vblank_of_dot_ne_one (hd : s.dot ≠ 1) : s.vblankAfterCheck = s.vblank := by simp [State.vblankAfterCheck, hd]

theorem RendersAt.tick (hr : RendersAt e sl d s) (hd : d < 341) (h : execAdvance s = .next t) :
    RendersAt e sl (d + 1) t := by
  obtain ⟨hsd, hss⟩ := hr.at_dot hd
  obtain ⟨hext, -, -, -, -, -, hdot, hscanline⟩ := tick_frame h
  have hline := (renderLine_iff sl).1 hr.line
  have hdot' : t.dot = (d + 1) % 341 := by
    rw [hdot, hsd, nextDot]
    split <;> omega
  have hscanline' : t.scanline = (sl + (d + 1) / 341) % 262 := by
    rw [hscanline, hsd, hss, nextScanline]
    split <;> omega
  have hoff : t.vblank = false := (tick_vblank h).trans hr.noVblank
  exact ⟨hdot', hscanline', hr.line, hext.trans hr.ext, hr.enabled, vblankAfterCheck_of_false hoff (by omega)⟩

theorem RendersAt.ticks {n : Nat} (hr : RendersAt e sl d s) (hn : d + n ≤ 341) (h : ticks n s = .next t) :
    RendersAt e sl (d + n) t := by
  induction n generalizing d s with
  | zero =>
    cases h
    exact hr
  | succ n ih =>
    obtain ⟨u, hu, hrest⟩ := ticks_succ_eq_next.1 h
    have := ih (hr.tick (by omega) hu) (by omega) hrest
    rwa [Nat.add_right_comm] at this

/-! ## The fetch step under the gate -/

/-- The registers that step 5b writes. -/
structure FetchRegs where
  ntLatch : Byte
  atLatch : Byte
  ptLoLatch : Byte
  ptHiLatch : Byte
  ptBase : Addr
  stage : Stage
  idle : Nat

def State.fetchRegs (s : State) : FetchRegs where
  ntLatch := s.ntLatch
  atLatch := s.atLatch
  ptLoLatch := s.ptLoLatch
  ptHiLatch := s.ptHiLatch
  ptBase := s.ptBase
  stage := s.stage
  idle := s.idle

/-- Before the pattern-high fetch the latched base is a pattern address (R146). -/
def FetchRegs.ready (r : FetchRegs) : Prop := r.stage = .PTHI → r.ptBase.toNat < 0x2000

/-- The stage after a fetch of this one (R144-R148). -/
def nextStage : Stage → Stage
  | .NT => .AT
  | .AT => .PTLO
  | .PTLO => .PTHI
  | .PTHI => .NT

/-- The tick at dot `d` counts instead of reading: the stall (R141) or an idle tick (R140). -/
def waits (d idle : Nat) : Prop := d = 257 ∨ 0 < idle

/-- The idle counter after a tick that waits. -/
def idleAfterWait (d idle : Nat) : Nat := if d = 257 then 63 else idle - 1

theorem ntAddr_lt (v : VReg) : (ntAddr v).toNat < 0x3000 := by
  obtain ⟨hnt, -⟩ := addressesStayInTheirRanges v false 0#8 0#4
  omega

theorem atAddr_lt (v : VReg) : (atAddr v).toNat < 0x3000 := by
  obtain ⟨-, hat, -⟩ := addressesStayInTheirRanges v false 0#8 0#4
  have := (nametableSelect v).isLt
  have := (coarseY v).isLt
  have := (coarseX v).isLt
  omega

theorem patternBase_lt (s : State) : s.patternBase.toNat < 0x2000 := by
  have hpt := ptAddr_toNat s.snap.bgPatternSelect s.ntLatch s.v
  have := s.snap.bgPatternSelect.toNat_lt
  have := s.ntLatch.isLt
  have := (fineY s.v).isLt
  unfold State.patternBase
  omega

theorem ptHighAddr_lt {a : Addr} (h : a.toNat < 0x2000) : (ptHighAddr a).toNat < 0x3000 := by
  rw [ptHighAddr, BitVec.toNat_add, BitVec.toNat_ofNat]
  omega

theorem fetch_step_of_waits (hg : gateAt sl d s = true) (hw : waits d s.idle) :
    stepOf .fetch sl d s = .next { s with idle := idleAfterWait d s.idle } := by
  rw [fetch_step, hg]
  by_cases hd : d = 257
  · simp [hd, idleAfterWait, execFetchStall257, spriteWindowStall]
  · simp [hd, idleAfterWait, hw.resolve_left hd, execFetchIdle]

/-- What a fetch that reads and moves on to the stage `st` does: the idle tick of R143, and one read below the palette
(20_memory.md R56). -/
structure FetchReads (st : Stage) (s t : State) : Prop where
  idle : t.idle = 1
  stage : t.stage = st
  ready : t.fetchRegs.ready
  event : ∃ p a b, a.toNat < 0x3000 ∧ t.events = s.events ++ [.read p a b]

/-- Every fetch row is one read and then its latch. -/
theorem fetchReads_of_latch {st : Stage} {p : Port} {a : Addr} {latch : Byte → State → State}
    (h : (memRead p a s fun b s' => .next (latch b s')) = .next t) (ha : a.toNat < 0x3000)
    (hlatch : ∀ b, (latch b (s.emit (.read p a b))).idle = 1 ∧ (latch b (s.emit (.read p a b))).stage = st ∧
      (latch b (s.emit (.read p a b))).fetchRegs.ready ∧
      (latch b (s.emit (.read p a b))).events = s.events ++ [.read p a b]) :
    FetchReads st s t := by
  obtain ⟨b, -, hk⟩ := memRead_eq_next.1 h
  cases hk
  obtain ⟨hidle, hstage, hready, hevents⟩ := hlatch b
  exact ⟨hidle, hstage, hready, p, a, b, ha, hevents⟩

/-- The stage moves on inside the windows (R144-R148) and stays outside them (R149; D10). -/
theorem fetch_step_reads (hg : gateAt sl d s = true) (hw : ¬waits d s.idle) (hready : s.fetchRegs.ready)
    (h : stepOf .fetch sl d s = .next t) : FetchReads (if fetchWindow d then nextStage s.stage else s.stage) s t := by
  obtain ⟨hd, hidle⟩ := not_or.1 hw
  rw [fetch_step, hg, Bool.not_true, if_neg Bool.false_ne_true, if_neg hd, if_neg hidle] at h
  have hbase := patternBase_lt s
  cases hin : fetchWindow d
  case false =>
    simp only [hin, Bool.not_false, if_true] at h
    exact fetchReads_of_latch h (ntAddr_lt s.v) fun _ => ⟨rfl, rfl, hready, rfl⟩
  case true =>
    simp only [hin, Bool.not_true, Bool.false_eq_true, if_false] at h
    cases hst : s.stage <;> simp only [hst] at h
    case NT => exact fetchReads_of_latch h (ntAddr_lt s.v) fun _ => ⟨rfl, rfl, nofun, rfl⟩
    case AT => exact fetchReads_of_latch h (atAddr_lt s.v) fun _ => ⟨rfl, rfl, nofun, rfl⟩
    case PTLO => exact fetchReads_of_latch h (by omega) fun _ => ⟨rfl, rfl, fun _ => hbase, rfl⟩
    case PTHI =>
      split at h
      case isTrue => exact fetchReads_of_latch h (ptHighAddr_lt (hready hst)) fun _ => ⟨rfl, rfl, nofun, rfl⟩
      case isFalse => exact fetchReads_of_latch h (ptHighAddr_lt hbase) fun _ => ⟨rfl, rfl, nofun, rfl⟩

/-! ## The fetch step inside a tick -/

/-- The VBlank check and the pixel step issue no fetch read. -/
theorem check_no_fetchRead {s3 : State} (h : stepOf .vblankCheck s.scanline s.dot s.sampled = .next s3) :
    s3.events.countP isFetchRead = 0 := by
  obtain ⟨-, -, -, -, -, hevents⟩ := check_cases h
  rw [hevents]
  split
  · rfl
  · split <;> rfl

theorem pixelPart_no_fetchRead {es : List Event} (h : isPixelPart s es) : es.countP isFetchRead = 0 := by
  obtain rfl | ⟨a, b, color, -, ha, rfl⟩ := h
  · rfl
  · have : ¬a.toNat < 0x3000 := by omega
    simp [isFetchRead, this]

/-- The fetch step of a tick starts from the tick's own fetch registers, and only it writes them or issues fetch reads. -/
theorem tick_fetch_step (h : execAdvance s = .next t) :
    ∃ u w, stepOf .fetch s.scanline s.dot u = .next w ∧ gateAt s.scanline s.dot u = s.gateHolds ∧
      u.fetchRegs = s.fetchRegs ∧ t.fetchRegs = w.fetchRegs ∧
      u.events.countP isFetchRead = 0 ∧ t.events.countP isFetchRead = w.events.countP isFetchRead := by
  obtain ⟨s3, s5a, s5b, s5c, s5d, s6, h3, ha, hb, hc, hd, h6, h7⟩ := tick_eq_next.1 h
  obtain ⟨hvblank, -⟩ := check_cases h3
  obtain ⟨pixel, hpixel, pixelPart⟩ := pixel_events h6
  have e3 := vblank_frame h3
  have ea := reload_frame ha
  have ec := address_frame hc
  have ed := shift_frame hd
  have e6 := pixel_frame h6
  have e7 := counter_frame h7
  refine ⟨s5a, s5b, hb, ?gate, ?before, ?after, ?check, ?pixel⟩
  case gate =>
    have hsnap : s5a.snap = s.ext := by rw [ea, e3]; rfl
    have hoff : s5a.vblank = s.vblankAfterCheck := by rw [ea, ← hvblank]
    rw [gateAt_eq, hsnap, hoff, State.gateHolds]
  case before => rw [ea, e3]; rfl
  case after => rw [e7, e6, ed, ec]; rfl
  case check =>
    have hkept : s5a.events = s3.events := by rw [ea]
    rw [hkept, check_no_fetchRead h3]
  case pixel =>
    have hevents : t.events = s5b.events ++ pixel := by rw [e7, hpixel, ed, ec]
    rw [hevents, List.countP_append, pixelPart_no_fetchRead pixelPart, Nat.add_zero]

/-- A tick that waits reads nothing and moves the idle counter alone. -/
theorem tick_of_waits (hg : s.gateHolds = true) (hw : waits s.dot s.idle) (h : execAdvance s = .next t) :
    t.fetchRegs = { s.fetchRegs with idle := idleAfterWait s.dot s.idle } ∧ t.events.countP isFetchRead = 0 := by
  obtain ⟨u, w, hstep, hgate, hbefore, hafter, hcheck, hevents⟩ := tick_fetch_step h
  have hidle : u.idle = s.idle := congrArg FetchRegs.idle hbefore
  rw [fetch_step_of_waits (hgate.trans hg) (hidle ▸ hw), hidle] at hstep
  cases hstep
  exact ⟨by rw [hafter, ← hbefore]; rfl, hevents.trans hcheck⟩

/-- A tick that does not wait issues one fetch read. -/
theorem tick_reads (hg : s.gateHolds = true) (hw : ¬waits s.dot s.idle) (hready : s.fetchRegs.ready)
    (h : execAdvance s = .next t) :
    t.idle = 1 ∧ t.stage = (if fetchWindow s.dot then nextStage s.stage else s.stage) ∧ t.fetchRegs.ready ∧
      t.events.countP isFetchRead = 1 := by
  obtain ⟨u, w, hstep, hgate, hbefore, hafter, hcheck, hevents⟩ := tick_fetch_step h
  have hidle : u.idle = s.idle := congrArg FetchRegs.idle hbefore
  have hstage : u.stage = s.stage := congrArg FetchRegs.stage hbefore
  have hreads := fetch_step_reads (hgate.trans hg) (hidle ▸ hw) (hbefore ▸ hready) hstep
  obtain ⟨p, a, b, ha, hread⟩ := hreads.event
  refine ⟨(congrArg FetchRegs.idle hafter).trans hreads.idle, ?stage, hafter ▸ hreads.ready, ?count⟩
  case stage => rw [← hstage, ← hreads.stage]; exact congrArg FetchRegs.stage hafter
  case count => simp [hevents, hread, hcheck, isFetchRead, ha]

/-! ## A stretch of fetches -/

/-- The fetches that `n` ticks from idle 0 issue: every second tick reads (R143). -/
def readsIn (n : Nat) : Nat := (n + 1) / 2

/-- From idle 0, `n` ticks up to the stall or the end of the line read at every second dot; the stage moves with each read
if these dots lie in a fetch window, and stays if they lie outside. -/
theorem runs_fetches {a : Nat} {inside : Bool} (hr : RendersAt e sl a s) (hb : s.booted) (hidle : s.idle = 0)
    (hready : s.fetchRegs.ready) (n : Nat) (hend : a + n ≤ 257 ∨ 257 < a ∧ a + n ≤ 341)
    (hwin : ∀ j, 2 * j < n → fetchWindow (a + 2 * j) = inside) :
    ∃ es t, Runs n s es t ∧ es.countP isFetchRead = readsIn n ∧ t.idle = n % 2 ∧ t.fetchRegs.ready ∧
      t.stage = if inside then nextStage^[readsIn n] s.stage else s.stage := by
  induction n with
  | zero => exact ⟨[], s, .refl s, rfl, hidle, hready, by cases inside <;> rfl⟩
  | succ n ih =>
    obtain ⟨es, u, hrun, hcount, huidle, huready, hustage⟩ := ih (by omega) fun j hj => hwin j (by omega)
    obtain ⟨t, ht⟩ := tick_completes (ticks_booted hb hrun.ticks_eq)
    have hru := hr.ticks (by omega) hrun.ticks_eq
    obtain ⟨hdot, -⟩ := hru.at_dot (by omega)
    have hgate := hru.gateHolds (by omega)
    refine ⟨_, t, hrun.snoc ht, ?_⟩
    rw [List.countP_append, hcount]
    obtain ⟨j, rfl | rfl⟩ := Nat.even_or_odd' n
    · have hreading : ¬waits u.dot u.idle := by
        unfold waits
        omega
      obtain ⟨htidle, htstage, htready, hone⟩ := tick_reads hgate hreading huready ht
      have hreads : readsIn (2 * j + 1) = readsIn (2 * j) + 1 := by
        unfold readsIn
        omega
      rw [hdot, hwin j (by omega), hustage] at htstage
      refine ⟨by rw [hone, hreads], by omega, htready, ?_⟩
      cases inside
      · exact htstage
      · rw [hreads, Function.iterate_succ_apply']
        exact htstage
    · have hwaiting : waits u.dot u.idle := .inr (by omega)
      obtain ⟨hregs, hnone⟩ := tick_of_waits hgate hwaiting ht
      have hreads : readsIn (2 * j + 1 + 1) = readsIn (2 * j + 1) := by
        unfold readsIn
        omega
      have htidle : t.idle = u.idle - 1 := by
        rw [show t.idle = idleAfterWait u.dot u.idle from congrArg FetchRegs.idle hregs, idleAfterWait, if_neg (by omega)]
      have hkept : t.stage = u.stage := congrArg FetchRegs.stage hregs
      have htready : t.fetchRegs.ready := by
        rw [hregs]
        exact huready
      exact ⟨by rw [hnone, hreads, Nat.add_zero], by omega, htready, by rw [hkept, hustage, hreads]⟩

/-- Four fetches are one tile and come back to the same stage. -/
theorem nextStage_iterate_four_mul (k : Nat) (st : Stage) : nextStage^[4 * k] st = st := by
  rw [Function.iterate_mul]
  exact Function.iterate_fixed (by cases st <;> rfl) k

/-! ## The stall (R141) -/

/-- A tick of the sprite window that waits completes in every state and has no event: it is neither at the VBlank check nor
in the write window. -/
theorem stall_tick (hr : RendersAt e sl d s) (hlo : 257 ≤ d) (hhi : d ≤ 320) (hw : waits d s.idle) :
    ∃ t, execAdvance s = .next t ∧ t.events = [] ∧
      t.fetchRegs = { s.fetchRegs with idle := idleAfterWait d s.idle } := by
  obtain ⟨hdot, -⟩ := hr.at_dot (by omega)
  have hgate : s.gateHolds = true := hr.gateHolds (by omega)
  have h3 := vblank_step_elsewhere (sl := s.scanline) (d := s.dot) (by omega) (by omega) s.sampled
  obtain ⟨s5a, ha⟩ := reload_step_completes s.scanline s.dot s.sampled
  have hgate' : gateAt s.scanline s.dot s5a = true := by
    have hsnap : s5a.snap = s.ext := by rw [reload_frame ha]; rfl
    have hoff : s5a.vblank = s.vblank := by rw [reload_frame ha]; rfl
    rwa [gateAt_eq, hsnap, hoff, ← vblank_of_dot_ne_one (by omega)]
  have hidle : s5a.idle = s.idle := by rw [reload_frame ha]; rfl
  have hb := fetch_step_of_waits hgate' (hidle.symm ▸ hdot.symm ▸ hw)
  obtain ⟨s5c, hc⟩ := address_step_completes s.scanline s.dot { s5a with idle := idleAfterWait s.dot s5a.idle }
  obtain ⟨s5d, hd⟩ := shift_step_completes s.scanline s.dot s5c
  have h6 : stepOf .pixel s.scanline s.dot s5d = .next s5d := by
    have hwindow : ¬s.dot ≤ 256 := by omega
    simp [pixel_step, writeWindow, hwindow]
  have hevents : s5d.events = [] := by
    rw [shift_frame hd, address_frame hc, reload_frame ha]
    rfl
  obtain ⟨t, h7⟩ : ∃ t, stepOf .counter s.scanline s.dot s5d = .next t := ⟨_, counter_step ..⟩
  have ht := tick_eq_next.2 ⟨_, _, _, _, _, _, h3, ha, hb, hc, hd, h6, h7⟩
  obtain ⟨hregs, -⟩ := tick_of_waits hgate (hdot.symm ▸ hw) ht
  exact ⟨t, ht, by rw [counter_frame h7, hevents], hdot ▸ hregs⟩

/-- The counter runs out 63 ticks after the stall: the registers `n + 1` ticks after dot 257, with nothing read on the way. -/
theorem runs_stall (hr : RendersAt e sl 257 s) (n : Nat) (hn : n ≤ 63) :
    ∃ t, Runs (n + 1) s [] t ∧ t.fetchRegs = { s.fetchRegs with idle := 63 - n } := by
  induction n with
  | zero =>
    obtain ⟨t, ht, hevents, hregs⟩ := stall_tick hr (by omega) (by omega) (.inl rfl)
    exact ⟨t, hevents ▸ .one ht, hregs⟩
  | succ n ih =>
    obtain ⟨u, hrun, huregs⟩ := ih (by omega)
    have hru := hr.ticks (by omega) hrun.ticks_eq
    have huidle : u.idle = 63 - n := congrArg FetchRegs.idle huregs
    obtain ⟨t, ht, hevents, hregs⟩ := stall_tick hru (by omega) (by omega) (.inr (by omega))
    have hidle : idleAfterWait (257 + (n + 1)) (63 - n) = 63 - (n + 1) := by
      rw [idleAfterWait, if_neg (by omega)]
      omega
    refine ⟨t, ?_, ?_⟩
    · have := hrun.snoc ht
      rwa [hevents] at this
    · rw [hregs, huregs, huidle, hidle]

/-! ## The address step inside a tick -/

theorem coarseX_incX (v : VReg) : coarseX (incX v) = coarseX v + 1#5 := by
  by_cases h : coarseX v = 31#5
  · obtain ⟨hcoarseX, -⟩ := incX_fields_of_eq h
    rw [hcoarseX, h]
    rfl
  · obtain ⟨hcoarseX, -⟩ := incX_fields_of_ne h
    exact hcoarseX

/-- The address step of a tick starts from the checkpoints and the horizontal field of the tick's own start, and only it
writes them. -/
theorem tick_address_step (h : execAdvance s = .next t) :
    ∃ u w, stepOf .address s.scanline s.dot u = .next w ∧ gateAt s.scanline s.dot u = s.gateHolds ∧ u.snap = s.ext ∧
      u.cpVis = s.cpVis ∧ u.cpPre = s.cpPre ∧ coarseX u.v = coarseX s.v ∧
      t.cpVis = w.cpVis ∧ t.cpPre = w.cpPre ∧ t.v = w.v := by
  obtain ⟨s3, s5a, s5b, s5c, s5d, s6, h3, ha, hb, hc, hd, h6, h7⟩ := tick_eq_next.1 h
  obtain ⟨hvblank, -⟩ := check_cases h3
  have e3 := vblank_frame h3
  have ea := reload_frame ha
  have eb := (fetch_frame hb).1
  have ed := shift_frame hd
  have e6 := pixel_frame h6
  have e7 := counter_frame h7
  have hsnap : s5b.snap = s.ext := by rw [eb, ea, e3]; rfl
  have hv : s5b.v = s.sampled.v := by rw [eb, ea, e3]
  refine ⟨s5b, s5c, hc, ?gate, hsnap, ?vis, ?pre, ?coarse, ?vis', ?pre', ?v'⟩
  case gate =>
    have hoff : s5b.vblank = s3.vblank := by rw [eb, ea]
    rw [gateAt_eq, hsnap, hoff, hvblank, State.gateHolds]
  case coarse =>
    have hmask (x : BitVec 5) : x &&& 31#5 = x := BitVec.and_allOnes
    rw [hv, State.sampled]
    split
    · simp [coarseX, BitVec.extractLsb'_and, hmask]
    · rfl
  case vis | pre => rw [eb, ea, e3]; rfl
  case vis' | pre' | v' => rw [e7, e6, ed]

/-! ## The checkpoints after dot 257 (R121-R126, R128) -/

/-- The checkpoints of the prefetch, dots 328 and 336, that lie before dot `d`. -/
def prefetchSteps (d : Nat) : Nat := if d ≤ 328 then 0 else if d ≤ 336 then 1 else 2

/-- The address pathway at dot `d` after the copy of dot 257: `cpPre` and coarse X have made the prefetch's steps so far. -/
structure PrefetchAt (e : Snapshot) (d : Nat) (s : State) : Prop where
  cpVis : s.cpVis = 8
  cpPre : s.cpPre = 328 + 8 * prefetchSteps d
  coarseX : coarseX s.v = coarseX e.t + BitVec.ofNat 5 (prefetchSteps d)

theorem tick_at_copy (hr : RendersAt e sl 257 s) (h : execAdvance s = .next t) : PrefetchAt e 258 t := by
  obtain ⟨u, w, hstep, hgate, hsnap, -, -, -, hvis, hpre, hv⟩ := tick_address_step h
  obtain ⟨hdot, -⟩ := hr.at_dot (by omega)
  rw [address_step, hgate, hr.gateHolds (by omega), hdot] at hstep
  cases hstep
  obtain ⟨hcoarse, -⟩ := copyBits_horizontal_fields u.v u.snap.t
  refine ⟨hvis, hpre, ?_⟩
  rw [hv, ← hr.ext, ← hsnap]
  exact hcoarse.trans (BitVec.add_zero _).symm

/-- A dot adds a step exactly where the pre-fetch checkpoint stands (R126; D6). -/
theorem prefetchSteps_succ (hd : d < 341) :
    prefetchSteps (d + 1) = if d = 328 + 8 * prefetchSteps d then prefetchSteps d + 1 else prefetchSteps d := by
  unfold prefetchSteps
  split_ifs <;> omega

theorem verticalCopy_le (h : verticalCopy sl d = true) : d ≤ 304 := by
  simp only [verticalCopy, Bool.and_eq_true, decide_eq_true_eq] at h
  exact h.2

theorem PrefetchAt.tick (hp : PrefetchAt e d s) (hr : RendersAt e sl d s) (hlo : 258 ≤ d) (hhi : d < 341)
    (h : execAdvance s = .next t) : PrefetchAt e (d + 1) t := by
  obtain ⟨u, w, hstep, hgate, -, hvis, hpre, hcoarse, hvis', hpre', hv'⟩ := tick_address_step h
  obtain ⟨hdot, -⟩ := hr.at_dot hhi
  rw [hp.cpVis] at hvis
  rw [hp.cpPre] at hpre
  rw [hp.coarseX] at hcoarse
  have hnext := prefetchSteps_succ hhi
  rw [address_step, hgate, hr.gateHolds hhi, hdot, hvis, hpre, Bool.not_true, if_neg Bool.false_ne_true,
    if_neg (by omega), if_neg (by omega)] at hstep
  split at hstep
  case isTrue hcopy =>
    cases hstep
    have := verticalCopy_le hcopy
    rw [if_neg (by omega)] at hnext
    obtain ⟨-, -, -, hkept, -⟩ := copyBits_vertical_fields u.v u.snap.t
    exact ⟨hvis'.trans hvis, by rw [hpre', hnext]; exact hpre, by rw [hv', hnext]; exact hkept.trans hcoarse⟩
  rw [if_neg (by omega)] at hstep
  split at hstep
  case isTrue hfires =>
    cases hstep
    rw [if_pos hfires] at hnext
    refine ⟨hvis'.trans hvis, ?_, ?_⟩
    · rw [hpre', hnext, Nat.mul_succ, ← Nat.add_assoc, ← hpre]
      rfl
    · rw [hv', hnext, BitVec.ofNat_add, ← BitVec.add_assoc, ← hcoarse]
      exact coarseX_incX u.v
  case isFalse hquiet =>
    cases hstep
    rw [if_neg hquiet] at hnext
    exact ⟨hvis'.trans hvis, by rw [hpre', hpre, hnext], by rw [hv', hcoarse, hnext]⟩

theorem PrefetchAt.ticks {n : Nat} (hp : PrefetchAt e d s) (hr : RendersAt e sl d s) (hlo : 258 ≤ d) (hhi : d + n ≤ 341)
    (h : ticks n s = .next t) : PrefetchAt e (d + n) t := by
  induction n generalizing d s with
  | zero =>
    cases h
    exact hp
  | succ n ih =>
    obtain ⟨u, hu, hrest⟩ := ticks_succ_eq_next.1 h
    have := ih (hp.tick hr hlo (by omega) hu) (hr.tick (by omega) hu) (by omega) (by omega) hrest
    rwa [Nat.add_right_comm] at this

/-- After the copy of dot 257 the address pathway is in its place for the rest of the line, wherever it stood before. -/
theorem prefetchAt_of_ticks {n : Nat} (hr : RendersAt e sl 257 s) (hn : n ≤ 83) (h : ticks (n + 1) s = .next t) :
    PrefetchAt e (258 + n) t := by
  obtain ⟨u, hu, hrest⟩ := ticks_succ_eq_next.1 h
  exact (tick_at_copy hr hu).ticks (hr.tick (by omega) hu) (by omega) (by omega) hrest

/-! ## The stall reaches the prefetch window -/

/-- Settles O35: the stall tick and the 63 ticks of its counter, none of which reads, and the copy of dot 257, which resets the
checkpoints. -/
theorem stallReachesThePrefetchWindow : Obligations.StallReachesThePrefetchWindow := by
  intro s hdot hline hv henabled
  have hplace := (renderLine_iff s.scanline).1 hline
  have hr : RendersAt s.ext s.scanline 257 s :=
    ⟨hdot, by omega, hline, rfl, henabled, vblankAfterCheck_of_false hv (by omega)⟩
  obtain ⟨t, ⟨hticks, hlog⟩, hregs⟩ := runs_stall hr 63 (by omega)
  obtain ⟨htdot, htscanline⟩ := (hr.ticks (by omega) hticks).at_dot (by omega)
  have hp := prefetchAt_of_ticks hr (by omega) hticks
  exact ⟨t, hticks, htdot, htscanline, congrArg FetchRegs.idle hregs, congrArg FetchRegs.stage hregs,
    congrArg FetchRegs.ntLatch hregs, congrArg FetchRegs.atLatch hregs, congrArg FetchRegs.ptLoLatch hregs,
    congrArg FetchRegs.ptHiLatch hregs, hp.cpVis, hlog⟩

/-! ## The two lines of R151 -/

/-- The fetch windows (R142). -/
theorem fetchWindow_of_line (h1 : 1 ≤ d) (h2 : d ≤ 256) : fetchWindow d = true := by simp [fetchWindow, h1, h2]

theorem fetchWindow_of_prefetch (h1 : 321 ≤ d) (h2 : d ≤ 336) : fetchWindow d = true := by simp [fetchWindow, h1, h2]

theorem fetchWindow_of_tail (h : 337 ≤ d) : fetchWindow d = false := by
  simp only [fetchWindow, Bool.or_eq_false_iff, Bool.and_eq_false_iff, decide_eq_false_iff_not]
  omega

/-- The block as a rendered line leaves it (R151; 41_address_pathway.md R128). -/
structure LineEnd (e : Snapshot) (t : State) : Prop where
  vblank : t.vblank = false
  idle : t.idle = 0
  stage : t.stage = .NT
  cpVis : t.cpVis = 8
  cpPre : t.cpPre = 344
  coarseX : coarseX t.v = coarseX e.t + 2#5

/-- From the stall to the end of the line: 8 fetches of two tiles, and two dummy reads. -/
theorem runs_to_line_end (hr : RendersAt e sl 257 s) (hb : s.booted) (hstage : s.stage = .NT) :
    ∃ es t, Runs 84 s es t ∧ es.countP isFetchRead = 10 ∧ LineEnd e t := by
  obtain ⟨u, hstall, huregs⟩ := runs_stall hr 63 (by omega)
  have hustage : u.stage = .NT := (congrArg FetchRegs.stage huregs).trans hstage
  have hub := ticks_booted hb hstall.ticks_eq
  have hru := hr.ticks (by omega) hstall.ticks_eq
  obtain ⟨es, v, hprefetch, hes, hvidle, hvready, hvstage⟩ :=
    runs_fetches (inside := true) hru hub (congrArg FetchRegs.idle huregs) (fun h => by cases hustage.symm.trans h) 16
      (by omega) fun j hj => fetchWindow_of_prefetch (by omega) (by omega)
  have hvb := ticks_booted hub hprefetch.ticks_eq
  have hrv := hru.ticks (by omega) hprefetch.ticks_eq
  obtain ⟨fs, t, htail, hfs, htidle, -, htstage⟩ :=
    runs_fetches (inside := false) hrv hvb hvidle hvready 4 (by omega) fun j hj => fetchWindow_of_tail (by omega)
  have hrun := (hstall.trans hprefetch).trans htail
  have hrt := hr.ticks (by omega) hrun.ticks_eq
  have hp := prefetchAt_of_ticks hr (by omega) hrun.ticks_eq
  refine ⟨_, t, hrun, by simp [hes, hfs, readsIn], ?_, htidle, ?_, hp.cpVis, hp.cpPre, hp.coarseX⟩
  · rw [← vblank_of_dot_ne_one (by simp [hrt.dot]), hrt.noVblank]
  · rw [htstage, hvstage, hustage]
    exact nextStage_iterate_four_mul 2 .NT

/-- Settles O36: a dummy read at dot 0, the 128 fetches of dots 2 to 256, and the rest of the line from the stall. -/
theorem renderedLineRepeatsItsSchedule : Obligations.RenderedLineRepeatsItsSchedule := by
  intro s hb hdot hsl hv henabled hidle hstage _ _
  have hr : RendersAt s.ext s.scanline 0 s :=
    ⟨hdot, by omega, (renderLine_iff _).2 (.inl hsl), rfl, henabled, vblankAfterCheck_of_false hv (by omega)⟩
  obtain ⟨es, u, hdummy, hes, huidle, huready, hustage⟩ :=
    runs_fetches (inside := false) hr hb hidle (fun h => by cases hstage.symm.trans h) 2 (by omega) fun j hj => by
      obtain rfl : j = 0 := by omega
      rfl
  have hub := ticks_booted hb hdummy.ticks_eq
  have hru := hr.ticks (by omega) hdummy.ticks_eq
  obtain ⟨fs, v, hfetches, hfs, -, -, hvstage⟩ :=
    runs_fetches (inside := true) hru hub huidle huready 255 (by omega) fun j hj =>
      fetchWindow_of_line (by omega) (by omega)
  have hvNT : v.stage = .NT := by
    rw [hvstage, hustage, hstage]
    exact nextStage_iterate_four_mul 32 .NT
  have hrv := hru.ticks (by omega) hfetches.ticks_eq
  obtain ⟨gs, t, hrest, hgs, hend⟩ := runs_to_line_end hrv (ticks_booted hub hfetches.ticks_eq) hvNT
  have hrun := (hdummy.trans hfetches).trans hrest
  have hrt := hr.ticks (by omega) hrun.ticks_eq
  have hscanline : t.scanline = s.scanline + 1 := by
    rw [hrt.scanline]
    omega
  refine ⟨t, hrun.ticks_eq, hrt.dot, hscanline, hend.vblank, hend.idle, hend.stage, hend.cpVis, hend.cpPre, hend.coarseX, ?_⟩
  rw [hrun.log_eq]
  simp [hes, hfs, hgs, readsIn]

/-- At (261, 0) VBlank is still active, so the tick only samples and counts; VBL_CLEAR opens the gate at dot 1 (R105,
45_vblank.md R212). -/
theorem tick_before_clear (hdot : s.dot = 0) (hsl : s.scanline = 261) (hv : s.vblank = true)
    (henabled : s.ext.renderingEnabled = true) :
    ∃ t, execAdvance s = .next t ∧ t.events = [] ∧ t.fetchRegs = s.fetchRegs ∧ RendersAt s.ext 261 1 t := by
  have htick := tick_of_vblank hv (by omega) (by omega)
  rw [counter_step, if_neg (by omega)] at htick
  obtain ⟨-, -, -, -, -, -, htdot, htscanline⟩ := tick_frame htick
  rw [hdot] at htdot
  rw [hdot, hsl] at htscanline
  have hoff : s.sampled.countUp.vblankAfterCheck = false := by
    simp [State.vblankAfterCheck, htdot, htscanline, nextDot, nextScanline]
  exact ⟨_, htick, rfl, rfl, htdot, htscanline, rfl, rfl, henabled, hoff⟩

/-- Settles O37: one tick with VBlank active, the 128 fetches of dots 1 to 255, and the rest of the line from the stall. -/
theorem preRenderLineRepeatsItsSchedule : Obligations.PreRenderLineRepeatsItsSchedule := by
  intro s hb hdot hsl hv henabled hidle hstage _ _
  obtain ⟨u, hu, huevents, huregs, hru⟩ := tick_before_clear hdot hsl hv henabled
  have hustage : u.stage = .NT := (congrArg FetchRegs.stage huregs).trans hstage
  have huidle : u.idle = 0 := (congrArg FetchRegs.idle huregs).trans hidle
  have hub := tick_booted hb hu
  obtain ⟨fs, v, hfetches, hfs, -, -, hvstage⟩ :=
    runs_fetches (inside := true) hru hub huidle (fun h => by cases hustage.symm.trans h) 256 (by omega) fun j hj =>
      fetchWindow_of_line (by omega) (by omega)
  have hvNT : v.stage = .NT := by
    rw [hvstage, hustage]
    exact nextStage_iterate_four_mul 32 .NT
  have hrv := hru.ticks (by omega) hfetches.ticks_eq
  obtain ⟨gs, t, hrest, hgs, hend⟩ := runs_to_line_end hrv (ticks_booted hub hfetches.ticks_eq) hvNT
  have hrt := hru.ticks (by omega) (hfetches.trans hrest).ticks_eq
  have hrun := (huevents ▸ Runs.one hu).trans (hfetches.trans hrest)
  refine ⟨t, hrun.ticks_eq, hrt.dot, hrt.scanline, hend.vblank, hend.idle, hend.stage, hend.cpVis, hend.cpPre, hend.coarseX, ?_⟩
  rw [hrun.log_eq]
  simp [hfs, hgs, readsIn]

end Sys2Proof.Machine
end

section
/-! SUPPORT. The shift and mux statements (43_shift_mux.md, 44_pixel_renderer.md section 1): the rows of steps 5a and 5d and when
a tick issues them, the palette index as four bits side by side, and the three palette addresses. -/

namespace Sys2Proof

/-! ## The windows as dots (R170, R171) -/

theorem shiftWindow_iff (d : Nat) : shiftWindow d = true ↔ (2 ≤ d ∧ d ≤ 257) ∨ (322 ≤ d ∧ d ≤ 337) := by
  simp [shiftWindow]

theorem reloadDot_iff (d : Nat) :
    reloadDot d = true ↔ (∃ k, 1 ≤ k ∧ k ≤ 32 ∧ d = 8 * k + 1) ∨ d = 329 ∨ d = 337 := by
  have heighth : (9 ≤ d ∧ d ≤ 257) ∧ d % 8 = 1 ↔ ∃ k, 1 ≤ k ∧ k ≤ 32 ∧ d = 8 * k + 1 := by
    constructor
    · intro h
      exact ⟨d / 8, by omega⟩
    · rintro ⟨k, h⟩
      omega
  simp [reloadDot, heighth, or_assoc]

theorem issued_shift (c : TickCtx) :
    issued .shift c = if c.gate = true ∧ shiftWindow c.dot = true then [.srShift] else [] := by
  simp [issued, TickStep.lines, List.filter_cons]

theorem issued_reload (c : TickCtx) :
    issued .reload c = if c.gate = true ∧ reloadDot c.dot = true then [.srReload, .atRecompute] else [] := by
  by_cases h : c.gate = true ∧ reloadDot c.dot = true <;> simp [issued, TickStep.lines, h]

end Sys2Proof

namespace Sys2Proof.Machine

/-! ## The rows by themselves (R170, R172, R173, R191-R193) -/

theorem exec_srShift (s : State) : exec .srShift s = execSrShift s := rfl
theorem exec_srReload (s : State) : exec .srReload s = execSrReload s := rfl
theorem exec_atRecompute (s : State) : exec .atRecompute s = execAtRecompute s := rfl
theorem exec_pixelBg (s : State) : exec .pixelBg s = execPixelBg s := rfl
theorem exec_pixelForcedV (s : State) : exec .pixelForcedV s = execPixelForcedV s := rfl
theorem exec_pixelForcedDefault (s : State) : exec .pixelForcedDefault s = execPixelForcedDefault s := rfl

/-- Settles O38: bit `n` of a register shifted by one is its bit `n + 1`, and step 5d holds the one row. -/
theorem shiftMovesRightInItsWindows : Obligations.ShiftMovesRightInItsWindows := by
  refine ⟨fun s => ⟨_, _, exec_srShift s, fun n => ?low, fun n => ?high⟩, fun c => ?window⟩
  case low => rw [BitVec.getLsbD_ushiftRight, Nat.add_comm]
  case high => rw [BitVec.getLsbD_ushiftRight, Nat.add_comm]
  case window => simp only [issued_shift, shiftWindow_iff]

/-- The reloaded register is the fetched byte above the old low byte (R172; D14). -/
theorem loadHigh_eq_append (r : Pattern) (b : Byte) : loadHigh r b = b ++ r.extractLsb' 0 8 := by
  apply BitVec.eq_of_getLsbD_eq
  intro i hi
  simp only [BitVec.getLsbD_append]
  interval_cases i <;> simp [loadHigh]

theorem loadHigh_high (r : Pattern) (b : Byte) : (loadHigh r b).extractLsb' 8 8 = b := by
  rw [loadHigh_eq_append]
  exact BitVec.extractLsb'_append_eq_left

theorem loadHigh_low (r : Pattern) (b : Byte) : (loadHigh r b).extractLsb' 0 8 = r.extractLsb' 0 8 := by
  rw [loadHigh_eq_append]
  exact BitVec.extractLsb'_append_eq_right

/-- Settles O39: the loaded register is two bytes side by side, and both rows of step 5a have the one condition. -/
theorem reloadLoadsHighBytesAtItsDots : Obligations.ReloadLoadsHighBytesAtItsDots := by
  refine ⟨fun s => ⟨_, _, exec_srReload s, loadHigh_high .., loadHigh_low .., loadHigh_high .., loadHigh_low ..⟩, fun c => ?_⟩
  simp only [← reloadDot_iff, issued_reload]
  exact ⟨fun h => if_pos h, fun h => if_neg h⟩

/-- A register of AT_RECOMPUTE: in every place the bit `i` of the selected group (R173). -/
theorem getLsbD_replicateBit_attrGroup (l : Byte) (v : VReg) {i n : Nat} (hi : i < 2) (hn : n < 8) :
    (replicateBit ((attrGroup l v).getLsbD i)).getLsbD n =
      l.getLsbD (4 * (v.getLsbD 5).toNat + 2 * (v.getLsbD 0).toNat + i) := by
  rw [getLsbD_replicateBit _ hn, getLsbD_attrGroup l v hi]

/-- Settles O40: the two registers replicate the two bits of the attribute group. -/
theorem attributeRecomputeResult : Obligations.AttributeRecomputeResult :=
  fun s => ⟨_, _, exec_atRecompute s, fun _ => getLsbD_replicateBit_attrGroup s.atLatch s.v Nat.zero_lt_two,
    fun _ => getLsbD_replicateBit_attrGroup s.atLatch s.v Nat.one_lt_two⟩

/-! ## The palette index as four bits side by side (R174, R175) -/

theorem muxIndex_eq_append (slo shi : Pattern) (alo ahi : Byte) (f : BitVec 3) :
    muxIndex slo shi alo ahi f = BitVec.ofBool (ahi.getLsbD f.toNat) ++ BitVec.ofBool (alo.getLsbD f.toNat) ++
      BitVec.ofBool (shi.getLsbD f.toNat) ++ BitVec.ofBool (slo.getLsbD f.toNat) := by
  simp only [muxIndex, bitAt_eq_ofBool]
  apply BitVec.eq_of_getLsbD_eq
  intro i hi
  simp only [BitVec.getLsbD_append]
  interval_cases i <;> simp

theorem muxIndex_attr_bits (slo shi : Pattern) (alo ahi : Byte) (f : BitVec 3) :
    (muxIndex slo shi alo ahi f).extractLsb' 2 2 =
      BitVec.ofBool (ahi.getLsbD f.toNat) ++ BitVec.ofBool (alo.getLsbD f.toNat) := by
  rw [muxIndex_eq_append, BitVec.append_assoc]
  exact BitVec.extractLsb'_append_eq_left

/-- A register that is 0x00 or 0xFF replicates one bit (10_state.md R25). -/
theorem exists_eq_replicateBit {r : Byte} (h : r = 0x00#8 ∨ r = 0xFF#8) : ∃ b, r = replicateBit b := by
  rcases h with rfl | rfl
  · exact ⟨false, rfl⟩
  · exact ⟨true, rfl⟩

theorem getLsbD_fineX_of_replicated {r : Byte} (h : r = 0x00#8 ∨ r = 0xFF#8) (f g : BitVec 3) :
    r.getLsbD f.toNat = r.getLsbD g.toNat := by
  obtain ⟨b, rfl⟩ := exists_eq_replicateBit h
  rw [getLsbD_replicateBit b f.isLt, getLsbD_replicateBit b g.isLt]

/-- Settles O41: the attribute half of the index is one bit of each register, the same at every place. -/
theorem fineXDoesNotMoveTheAttributeBits : Obligations.FineXDoesNotMoveTheAttributeBits := by
  rintro s f g ⟨hlo, hhi⟩
  simp only [muxIndex_attr_bits, getLsbD_fineX_of_replicated hlo f g, getLsbD_fineX_of_replicated hhi f g]

/-! ## The palette addresses (R191-R193) -/

theorem palAddr_muxIndex_toNat (slo shi : Pattern) (alo ahi : Byte) (f : BitVec 3) :
    (palAddr (muxIndex slo shi alo ahi f)).toNat = 0x3F00 + (slo.getLsbD f.toNat).toNat +
      2 * (shi.getLsbD f.toNat).toNat + 4 * (alo.getLsbD f.toNat).toNat + 8 * (ahi.getLsbD f.toNat).toNat := by
  simp only [palAddr_eq_append, muxIndex_eq_append, toNat_append_eq_add, BitVec.toNat_ofNat, BitVec.toNat_ofBool]
  omega

/-- Settles O42: each row replaces the palette address by definition, and the address is the number of its fields. -/
theorem pixelAddressResults : Obligations.PixelAddressResults :=
  fun s => ⟨_, _, exec_pixelBg s, palAddr_muxIndex_toNat .., exec_pixelForcedV s, BitVec.toNat_setWidth 14 s.v,
    exec_pixelForcedDefault s⟩

end Sys2Proof.Machine
end

section
/-! SUPPORT. The pixel renderer statements (44_pixel_renderer.md): the one cell a tick may write, and the frame that draws every
cell. -/

namespace Sys2Proof.Machine

variable {s t : State}

theorem writeWindow_iff (sl d : Nat) : writeWindow sl d = true ↔ (8 ≤ sl ∧ sl ≤ 231) ∧ 1 ≤ d ∧ d ≤ 256 := by
  simp [writeWindow, and_assoc]

theorem pixelGateHolds_iff (s : State) :
    s.pixelGateHolds = true ↔ s.vblankAfterCheck = false ∧ writeWindow s.scanline s.dot = true := by
  simp [State.pixelGateHolds]

/-- The column of a tick under the pixel gate. -/
theorem pixelGate_col_lt (hgate : s.pixelGateHolds = true) : s.dot - 1 < 256 := by
  obtain ⟨-, hwindow⟩ := (pixelGateHolds_iff s).1 hgate
  obtain ⟨-, -, hlast⟩ := (writeWindow_iff ..).1 hwindow
  omega

/-! ## The pixel step inside a tick (R190, R195) -/

/-- The pixel step of a tick starts from the tick's own frame buffer and coordinates, under the tick's own gate, and only it
writes the frame buffer. -/
theorem tick_pixel_step (h : execAdvance s = .next t) :
    ∃ u w, stepOf .pixel s.scanline s.dot u = .next w ∧
      (!u.vblank && writeWindow s.scanline s.dot) = s.pixelGateHolds ∧
      u.fb = s.fb ∧ u.scanline = s.scanline ∧ u.dot = s.dot ∧ t.fb = w.fb := by
  obtain ⟨s3, s5a, s5b, s5c, s5d, s6, h3, ha, hb, hc, hd, h6, h7⟩ := tick_eq_next.1 h
  obtain ⟨hvblank, -⟩ := check_cases h3
  have e3 := vblank_frame h3
  have ea := reload_frame ha
  have eb := (fetch_frame hb).1
  have ec := address_frame hc
  have ed := shift_frame hd
  refine ⟨s5d, s6, h6, ?gate, ?fb, ?scanline, ?dot, ?after⟩
  case gate =>
    have hoff : s5d.vblank = s.vblankAfterCheck := by rw [ed, ec, eb, ea, ← hvblank]
    rw [hoff, State.pixelGateHolds]
  case fb => rw [ed, ec, eb, ea, e3]; rfl
  case scanline => rw [ed, ec, eb, ea, e3]; rfl
  case dot => rw [ed, ec, eb, ea, e3]; rfl
  case after => rw [counter_frame h7]

/-- Outside the pixel gate the frame buffer stays. -/
theorem tick_fb_of_closed (h : execAdvance s = .next t) (hgate : s.pixelGateHolds = false) : t.fb = s.fb := by
  obtain ⟨u, w, hstep, hsame, hfb, -, -, hafter⟩ := tick_pixel_step h
  obtain ⟨-, rfl⟩ | ⟨hopen, -⟩ := pixel_cases hstep
  · exact hafter.trans hfb
  · cases hgate.symm.trans (hsame.symm.trans hopen)

/-- Inside it every cell reads as before, save the tick's own. -/
theorem tick_fbCell_of_gate (h : execAdvance s = .next t) (hgate : s.pixelGateHolds = true) :
    ∃ color, ∀ row col, col < 256 →
      t.fbCell row col = if row = s.scanline - 8 ∧ col = s.dot - 1 then some color else s.fbCell row col := by
  obtain ⟨u, w, hstep, hsame, hfb, hscanline, hdot, hafter⟩ := tick_pixel_step h
  obtain ⟨hclosed, -⟩ | ⟨-, -, b, color, -, -, rfl⟩ := pixel_cases hstep
  · cases hgate.symm.trans (hsame.symm.trans hclosed)
  · refine ⟨color, fun row col hcol => ?_⟩
    have hown : u.pixelCol < 256 := by rw [State.pixelCol, hdot]; exact pixelGate_col_lt hgate
    rw [State.fbCell, hafter, ← State.fbCell, fbCell_putPixel _ _ hown hcol, State.pixelRow, State.pixelCol, hscanline, hdot]
    simp only [State.fbCell, State.emit_fb, hfb]

/-- Settles O44: under the pixel gate the tick's own cell gets its colour, and no other cell and no other tick changes. -/
theorem tickWritesExactlyItsCell : Obligations.TickWritesExactlyItsCell := by
  intro s t h
  refine ⟨fun hgate => ?_, tick_fb_of_closed h⟩
  obtain ⟨color, hcells⟩ := tick_fbCell_of_gate h hgate
  refine ⟨?own, fun row col hcol hother => ?others⟩
  case own => rw [hcells _ _ (pixelGate_col_lt hgate), if_pos ⟨rfl, rfl⟩, Option.isSome_some]
  case others => rw [hcells row col hcol, if_neg hother]

/-! ## A frame (R197) -/

/-- A cell that holds a value holds one after every tick. -/
theorem tick_keeps_drawn {row col : Nat} (h : execAdvance s = .next t) (hcol : col < 256)
    (hdrawn : (s.fbCell row col).isSome = true) : (t.fbCell row col).isSome = true := by
  cases hgate : s.pixelGateHolds
  case false => rwa [State.fbCell, tick_fb_of_closed h hgate]
  case true =>
    obtain ⟨color, hcells⟩ := tick_fbCell_of_gate h hgate
    rw [hcells row col hcol]
    split
    · rfl
    · exact hdrawn

theorem ticks_keep_drawn {n row col : Nat} (h : ticks n s = .next t) (hcol : col < 256)
    (hdrawn : (s.fbCell row col).isSome = true) : (t.fbCell row col).isSome = true := by
  induction n generalizing s with
  | zero =>
    cases h
    exact hdrawn
  | succ n ih =>
    obtain ⟨u, hu, hrest⟩ := ticks_succ_eq_next.1 h
    exact ih hrest (tick_keeps_drawn hu hcol hdrawn)

/-- The place in the frame of the tick that draws a cell. -/
def drawPos (row col : Nat) : Nat := framePos (row + 8) (col + 1)

/-- No cell is drawn in the last tick of the frame. -/
theorem drawPos_lt {row col : Nat} (hrow : row < 224) (hcol : col < 256) : drawPos row col < 89341 := by
  unfold drawPos framePos
  omega

/-- The tick at a cell's place draws it, unless VBlank is on. -/
theorem tick_draws {row col : Nat} (hc : s.countersOk) (hv : s.vblank = false) (hrow : row < 224) (hcol : col < 256)
    (hplace : framePos s.scanline s.dot = drawPos row col) (h : execAdvance s = .next t) :
    (t.fbCell row col).isSome = true := by
  have hcounters : s.scanline = row + 8 ∧ s.dot = col + 1 := by
    obtain ⟨hdot, -⟩ := hc
    unfold drawPos framePos at hplace
    omega
  obtain ⟨hscanline, hdot⟩ := hcounters
  have hgate : s.pixelGateHolds = true := by
    refine (pixelGateHolds_iff s).2 ⟨vblankAfterCheck_of_false hv (by omega), (writeWindow_iff ..).2 ?_⟩
    omega
  obtain ⟨hown, -⟩ := tickWritesExactlyItsCell s t h
  obtain ⟨hdrawn, -⟩ := hown hgate
  simpa only [hscanline, hdot, Nat.add_sub_cancel] using hdrawn

/-- VBlank stays off up to the tick (241, 1), which comes after the place of every cell. -/
theorem tick_vblank_before_drawPos {row col : Nat} (hv : s.vblank = false) (hrow : row < 224) (hcol : col < 256)
    (hahead : framePos s.scanline s.dot ≤ drawPos row col) (h : execAdvance s = .next t) : t.vblank = false := by
  refine (tick_vblank h).trans (vblankAfterCheck_of_false hv ?_)
  unfold drawPos framePos at hahead
  omega

/-- From VBlank off, ticks draw every cell whose place they pass. -/
theorem ticks_draw {n row col : Nat} (hc : s.countersOk) (hv : s.vblank = false) (hrow : row < 224) (hcol : col < 256)
    (hahead : framePos s.scanline s.dot ≤ drawPos row col) (hpassed : drawPos row col < framePos s.scanline s.dot + n)
    (h : ticks n s = .next t) : (t.fbCell row col).isSome = true := by
  induction n generalizing s with
  | zero => omega
  | succ n ih =>
    obtain ⟨u, hu, hrest⟩ := ticks_succ_eq_next.1 h
    obtain hplace | hlater := Nat.eq_or_lt_of_le hahead
    · exact ticks_keep_drawn hrest hcol (tick_draws hc hv hrow hcol hplace hu)
    · have hlast := drawPos_lt hrow hcol
      have hnext : framePos u.scanline u.dot = framePos s.scanline s.dot + 1 := by
        rw [tick_framePos hc hu]
        exact Nat.mod_eq_of_lt (by omega)
      exact ih (tick_countersOk hc hu) (tick_vblank_before_drawPos hv hrow hcol hahead hu) (by omega) (by omega) hrest

/-- Settles O51: a frame from (0, 0) passes the place of every cell with VBlank off. -/
theorem frameDrawsEveryCell : Obligations.FrameDrawsEveryCell := by
  intro s hb hdot hscanline hv
  obtain ⟨t, ht, -⟩ := ticks_complete 89342 hb
  have hc : s.countersOk := ⟨by omega, by omega⟩
  have hstart : framePos s.scanline s.dot = 0 := by rw [hscanline, hdot, framePos]
  refine ⟨t, ht, fun row col hrow hcol => ticks_draw hc hv hrow hcol (by omega) ?_ ht⟩
  unfold drawPos framePos
  omega

end Sys2Proof.Machine
end

section
/-! SUPPORT. The VBlank statements (45_vblank.md): the rows of the VBlank check, what they make of the flags over a tick, and what
they issue over a frame. -/

namespace Sys2Proof.Machine

/-! ## The rows by themselves (R210-R213) -/

theorem exec_vblSet (s : State) : exec .vblSet s = execVblSet s := rfl
theorem exec_irqRaise (s : State) : exec .irqRaise s = execIrqRaise s := rfl
theorem exec_vblClear (s : State) : exec .vblClear s = execVblClear s := rfl
theorem exec_statusWrite (s : State) : exec .statusWrite s = execStatusWrite s := rfl

theorem raiseIrq_eq (s : State) : s.raiseIrq = { s with irq := s.irq || s.snap.irqEnable } := by
  cases henable : s.snap.irqEnable <;> simp [State.raiseIrq, henable]

/-- Settles O21: VBL_SET and VBL_CLEAR replace their fields by definition; IRQ_RAISE is an or with the sampled enable bit. -/
theorem flagMicroOpResults : Obligations.FlagMicroOpResults :=
  fun s => ⟨exec_vblSet s, (exec_irqRaise s).trans (congrArg _ (raiseIrq_eq s)), exec_vblClear s⟩

/-- Settles O22: the two cases of the status write with the cleared-flags byte. -/
theorem statusWriteResultOrFault : Obligations.StatusWriteResultOrFault := by
  intro s
  obtain ⟨haccepts, hwrite⟩ | ⟨hrejects, hfault⟩ := statusWrite_cases clearedFlagsByte s
  · exact ⟨fun _ => (exec_statusWrite s).trans hwrite, fun hrejects => by cases haccepts.symm.trans hrejects⟩
  · exact ⟨fun haccepts => (by cases hrejects.symm.trans haccepts), fun _ => (exec_statusWrite s).trans hfault⟩

variable {s t : State}

/-! ## VBlank in its span (R215) -/

theorem framePos_eq_iff {sl d sl' d' : Nat} (hd : d ≤ 340) (hd' : d' ≤ 340) :
    framePos sl d = framePos sl' d' ↔ sl = sl' ∧ d = d' := by
  unfold framePos
  omega

/-- The VBlank check, told by the tick's place in the frame. -/
theorem vblankAfterCheck_eq_of_place (hc : s.countersOk) :
    s.vblankAfterCheck =
      if framePos s.scanline s.dot = framePos 241 1 then true
      else if framePos s.scanline s.dot = framePos 261 1 then false
      else s.vblank := by
  obtain ⟨hdot, -⟩ := hc
  rw [State.vblankAfterCheck]
  simp only [framePos_eq_iff hdot (show 1 ≤ 340 by decide)]

theorem vblankInPhase_iff (s : State) :
    s.vblankInPhase ↔
      s.vblank = decide (framePos 241 2 ≤ framePos s.scanline s.dot ∧ framePos s.scanline s.dot ≤ framePos 261 1) := by
  rw [State.vblankInPhase, inVblankSpan, Bool.decide_and]

/-- Settles O14: the span begins one place after the tick that sets VBlank and ends at the place of the tick that clears it;
no other tick enters or leaves it. -/
theorem tickKeepsVblankPhase : Obligations.TickKeepsVblankPhase := by
  intro s t hc hphase h
  rw [vblankInPhase_iff] at hphase ⊢
  rw [tick_vblank h, vblankAfterCheck_eq_of_place hc, tick_framePos hc h, hphase]
  have hlt := framePos_lt hc
  generalize framePos s.scanline s.dot = place at hlt ⊢
  have hset : framePos 241 1 = 82182 := rfl
  have hfirst : framePos 241 2 = 82183 := rfl
  have hclear : framePos 261 1 = 89002 := rfl
  rw [hset, hfirst, hclear]
  split
  case isTrue hat => subst hat; rfl
  split
  case isTrue hat => subst hat; rfl
  case isFalse hnotSet hnotClear => exact decide_eq_decide.2 (by omega)

/-! ## The events of the VBlank check in a tick (R60, R214) -/

/-- What the VBlank check of the tick that starts in `s` issues. -/
def State.checkEvents (s : State) : List Event :=
  if s.scanline = 241 ∧ s.dot = 1 then [.vblankEdge]
  else if s.scanline = 261 ∧ s.dot = 1 then [.write s.params.statusAddr 0x00#8 s.params.token]
  else []

/-- A pulse or a write: what neither the fetch nor the pixel step issues. -/
def isCheckEvent : Event → Bool
  | .vblankEdge => true
  | .write _ _ _ => true
  | .read _ _ _ => false
  | .pixel _ _ _ => false

theorem fetchPart_no_checkEvent {es : List Event} {e : Event} (he : isCheckEvent e = true) (h : isFetchPart s es) :
    es.count e = 0 := by
  obtain rfl | ⟨p, a, b, -, rfl⟩ := h
  · rfl
  · cases e <;> simp_all [isCheckEvent]

theorem pixelPart_no_checkEvent {es : List Event} {e : Event} (he : isCheckEvent e = true) (h : isPixelPart s es) :
    es.count e = 0 := by
  obtain rfl | ⟨a, b, color, -, -, rfl⟩ := h
  · rfl
  · cases e <;> simp_all [isCheckEvent]

/-- The pulses and writes of a tick are those of its VBlank check. -/
theorem tick_count_checkEvent (h : execAdvance s = .next t) {e : Event} (he : isCheckEvent e = true) :
    t.events.count e = s.checkEvents.count e := by
  obtain ⟨check, fetch, pixel, hevents, rfl, hfetch, hpixel⟩ := tickEventsComeInOrder s t h
  rw [hevents, List.count_append, List.count_append, fetchPart_no_checkEvent he hfetch, pixelPart_no_checkEvent he hpixel]
  rfl

theorem tick_vblankEdge_count (h : execAdvance s = .next t) :
    t.events.count .vblankEdge = if s.scanline = 241 ∧ s.dot = 1 then 1 else 0 := by
  rw [tick_count_checkEvent h rfl, State.checkEvents]
  split
  case isTrue => rfl
  split <;> rfl

theorem tick_statusWrite_count (h : execAdvance s = .next t) :
    t.events.count (.write s.params.statusAddr 0x00#8 s.params.token) =
      if s.scanline = 261 ∧ s.dot = 1 then 1 else 0 := by
  rw [tick_count_checkEvent h rfl, State.checkEvents]
  split
  case isTrue hset => rw [if_neg (by omega)]; rfl
  split
  case isTrue => exact List.count_singleton_self
  case isFalse => rfl

/-! ## The flags over a tick (R210, R212) -/

/-- The sprite flags are decided by the check of the tick alone, which clears them at (261, 1). -/
theorem tick_spriteFlags (h : execAdvance s = .next t) :
    t.spriteZeroHit = (if s.scanline = 261 ∧ s.dot = 1 then false else s.spriteZeroHit) ∧
      t.spriteOverflow = (if s.scanline = 261 ∧ s.dot = 1 then false else s.spriteOverflow) := by
  obtain ⟨s3, s5a, s5b, s5c, s5d, s6, h3, ha, hb, hc, hd, h6, h7⟩ := tick_eq_next.1 h
  obtain ⟨-, -, hzero, hoverflow, -⟩ := check_cases h3
  obtain ⟨hzeroKept, hoverflowKept⟩ : t.spriteZeroHit = s3.spriteZeroHit ∧ t.spriteOverflow = s3.spriteOverflow := by
    rw [counter_frame h7, pixel_frame h6, shift_frame hd, address_frame hc, (fetch_frame hb).1, reload_frame ha]
    exact ⟨rfl, rfl⟩
  exact ⟨hzeroKept.trans hzero, hoverflowKept.trans hoverflow⟩

theorem vblankEdge_mem_tick_iff (h : execAdvance s = .next t) :
    Event.vblankEdge ∈ t.events ↔ s.scanline = 241 ∧ s.dot = 1 := by
  rw [← List.count_pos_iff, tick_vblankEdge_count h]
  split <;> simp [*]

/-- Settles O23: the VBlank check alone writes the three flags, and it alone pulses. -/
theorem tickSetsAndClearsFlagsAtTwoTicks : Obligations.TickSetsAndClearsFlagsAtTwoTicks := by
  intro s t h
  obtain ⟨hzero, hoverflow⟩ := tick_spriteFlags h
  exact ⟨tick_vblank h, hzero, hoverflow, vblankEdge_mem_tick_iff h⟩

/-! ## Events that come once a frame (R215, R53) -/

theorem eventLog_length {n : Nat} (h : ticks n s = .next t) : (eventLog n s).length = n := by
  induction n generalizing s with
  | zero => rfl
  | succ n ih =>
    obtain ⟨u, hu, hrest⟩ := ticks_succ_eq_next.1 h
    rw [eventLog_succ hu, List.length_cons, ih hrest]

/-- With the parameters `ps`, the tick at place `p` of the frame issues `e` once, and a tick elsewhere does not. -/
def ComesOnceAt (ps : Params) (e : Event) (p : Nat) : Prop :=
  ∀ s t : State, s.params = ps → s.countersOk → execAdvance s = .next t →
    t.events.count e = if framePos s.scanline s.dot = p then 1 else 0

theorem vblankEdge_comesOnce (ps : Params) : ComesOnceAt ps .vblankEdge (framePos 241 1) := by
  intro s t _ hc h
  obtain ⟨hdot, -⟩ := hc
  simp only [tick_vblankEdge_count h, framePos_eq_iff hdot (show 1 ≤ 340 by decide)]

theorem statusWrite_comesOnce (ps : Params) :
    ComesOnceAt ps (.write ps.statusAddr 0x00#8 ps.token) (framePos 261 1) := by
  rintro s t rfl hc h
  obtain ⟨hdot, -⟩ := hc
  simp only [tick_statusWrite_count h, framePos_eq_iff hdot (show 1 ≤ 340 by decide)]

/-- Over any number of ticks such an event comes as often as the run leaves its place; with the places numbered so that `p` is
the last of a frame, that is how many frames end. -/
theorem ticks_count_of_comesOnceAt {n p : Nat} {e : Event} (he : ComesOnceAt s.params e p) (hp : p < 89342)
    (hc : s.countersOk) (h : ticks n s = .next t) :
    (eventLog n s).flatten.count e + (framePos s.scanline s.dot + (89341 - p)) / 89342 =
      (framePos s.scanline s.dot + n + (89341 - p)) / 89342 := by
  induction n generalizing s with
  | zero => simp [eventLog]
  | succ n ih =>
    obtain ⟨u, hu, hrest⟩ := ticks_succ_eq_next.1 h
    obtain ⟨-, -, -, -, hparams, -⟩ := tick_frame hu
    have hlater := ih (hparams ▸ he) (tick_countersOk hc hu) hrest
    have hlt := framePos_lt hc
    rw [tick_framePos hc hu] at hlater
    rw [eventLog_succ hu, List.flatten_cons, List.count_append, he s u rfl hc hu]
    split <;> omega

/-- From any place, a frame of ticks leaves each place once. -/
theorem frame_count_of_comesOnceAt {p : Nat} {e : Event} (he : ComesOnceAt s.params e p) (hp : p < 89342)
    (hc : s.countersOk) (h : ticks 89342 s = .next t) : (eventLog 89342 s).flatten.count e = 1 := by
  have hcount := ticks_count_of_comesOnceAt he hp hc h
  omega

/-- Settles O52: a booted machine completes a frame of ticks, which passes the place of the pulse and that of the status write
once. -/
theorem onePulseAndOneStatusWritePerFrame : Obligations.OnePulseAndOneStatusWritePerFrame := by
  intro s hb hc
  obtain ⟨t, ht, -⟩ := ticks_complete 89342 hb
  exact ⟨eventLog_length ht, frame_count_of_comesOnceAt (vblankEdge_comesOnce _) (by decide) hc ht,
    frame_count_of_comesOnceAt (statusWrite_comesOnce _) (by decide) hc ht⟩

end Sys2Proof.Machine
end

section
/-! SUPPORT. The exception statements (60_exceptions.md): where a tick may end badly and where it cannot, and the host's moves
between two ticks. -/

namespace Sys2Proof.Machine

variable {s t u : State}

/-! ## The tick (241, 1) (R235) -/

/-- A tick whose VBlank check leaves VBlank active goes from the check to the counter step. -/
theorem tick_of_check_vblank (h : stepOf .vblankCheck s.scanline s.dot s.sampled = .next t) (hv : t.vblank = true) :
    execAdvance s = stepOf .counter s.scanline s.dot t := by
  have hclosed := gateAt_of_vblank s.scanline s.dot hv
  rw [counter_step]
  exact tick_eq_next.2 ⟨_, _, _, _, _, _, h, reload_step_of_closed hclosed, fetch_step_of_closed hclosed,
    address_step_of_closed hclosed, shift_step_of_closed hclosed, pixel_step_of_vblank hv, counter_step ..⟩

/-- The tick (241, 1) sets VBlank, raises the request and counts. -/
theorem tick_at_vblank_set (hsl : s.scanline = 241) (hdot : s.dot = 1) :
    execAdvance s = .next s.sampled.setVblank.raiseIrq.countUp := by
  have hcheck : stepOf .vblankCheck s.scanline s.dot s.sampled = .next s.sampled.setVblank.raiseIrq := by
    rw [vblank_step, if_pos ⟨hsl, hdot⟩]
  rw [tick_of_check_vblank hcheck (State.raiseIrq_vblank _), counter_step, if_neg (by omega)]

/-- Settles O25: with VBlank set by the check, both gates are closed, so that no step of this tick can reach the memory. -/
theorem interruptTickNeverFaults : Obligations.InterruptTickNeverFaults := by
  intro s hsl hdot
  have htick := tick_at_vblank_set hsl hdot
  obtain ⟨-, -, -, -, -, -, hdot', hscanline'⟩ := tick_frame htick
  rw [hdot] at hdot'
  rw [hdot, hsl] at hscanline'
  refine ⟨_, htick, ?vblank, ?irq, ?events, hscanline', hdot'⟩
  case vblank => exact State.raiseIrq_vblank _
  case irq => exact State.raiseIrq_irq _
  case events => exact State.raiseIrq_events _

/-! ## A status write that is not accepted (R235) -/

/-- The tick from its VBlank check on. -/
theorem execAdvance_from_check (s : State) :
    execAdvance s = keepPre s (andThen (stepOf .vblankCheck s.scanline s.dot s.sampled)
      (runSteps s.scanline s.dot [.reload, .fetch, .address, .shift, .pixel, .counter])) := by
  have hrun (steps : List TickStep) : runSteps s.scanline s.dot (.mask :: .sample :: steps) s.beginTick =
      andThen (andThen (stepOf .mask s.scanline s.dot s.beginTick) (stepOf .sample s.scanline s.dot))
        (runSteps s.scanline s.dot steps) := by
    rw [andThen_assoc]
    rfl
  rw [execAdvance, TickStep.order, hrun, sampled_eq, andThen_next, runSteps_cons]

/-- Settles O48: the VBlank check is the first step that can fault, and a fault there ends the tick. -/
theorem rejectedStatusWriteEndsTheTick : Obligations.RejectedStatusWriteEndsTheTick := by
  intro s hsl hdot hrejects
  have hrejects' : s.sampled.clearFlags.statusAccepts = false := hrejects
  obtain ⟨haccepts, -⟩ | ⟨-, hfault⟩ := statusWrite_cases clearedFlagsByte s.sampled.clearFlags
  · cases haccepts.symm.trans hrejects'
  · have hcheck : stepOf .vblankCheck s.scanline s.dot s.sampled = execStatusWrite s.sampled.clearFlags := by
      rw [vblank_step, if_neg (by omega), if_pos ⟨hsl, hdot⟩]
    rw [exec_advance, execAdvance_from_check, hcheck, execStatusWrite, hfault, ← hsl, ← hdot]
    rfl

/-! ## What the steps before the counter step keep (R231) -/

/-- `t` has the memories of `s` and stands at its place in the frame. -/
def State.standsLike (t s : State) : Prop :=
  t.gen = s.gen ∧ t.raw = s.raw ∧ t.scanline = s.scanline ∧ t.dot = s.dot

theorem State.standsLike.trans (ht : t.standsLike s) (hs : s.standsLike u) : t.standsLike u := by
  obtain ⟨hgen, hraw, hsl, hdot⟩ := ht
  obtain ⟨hgen', hraw', hsl', hdot'⟩ := hs
  exact ⟨hgen.trans hgen', hraw.trans hraw', hsl.trans hsl', hdot.trans hdot'⟩

theorem State.standsLike.readByte (h : t.standsLike s) (p : Port) (a : Addr) : t.readByte p a = s.readByte p a := by
  obtain ⟨hgen, hraw, -, -⟩ := h
  exact readByte_congr hgen hraw p a

theorem sampled_standsLike (s : State) : s.sampled.standsLike s := ⟨rfl, rfl, rfl, rfl⟩

theorem step_standsLike {st : TickStep} {sl d : Nat} (h : stepOf st sl d s = .next t) (hst : st ≠ .counter) :
    t.standsLike s := by
  cases st
  case mask =>
    rw [mask_step] at h
    cases h
    split <;> exact ⟨rfl, rfl, rfl, rfl⟩
  case sample =>
    rw [sample_step] at h
    cases h
    exact ⟨rfl, rfl, rfl, rfl⟩
  case vblankCheck => rw [vblank_frame h]; exact ⟨rfl, rfl, rfl, rfl⟩
  case reload => rw [reload_frame h]; exact ⟨rfl, rfl, rfl, rfl⟩
  case fetch => rw [(fetch_frame h).1]; exact ⟨rfl, rfl, rfl, rfl⟩
  case address => rw [address_frame h]; exact ⟨rfl, rfl, rfl, rfl⟩
  case shift => rw [shift_frame h]; exact ⟨rfl, rfl, rfl, rfl⟩
  case pixel => rw [pixel_frame h]; exact ⟨rfl, rfl, rfl, rfl⟩
  case counter => exact absurd rfl hst

/-! ## No tick is refused (R232) -/

/-- A read followed by a latch is answered or faults. -/
theorem memRead_ne_refused (p : Port) (a : Addr) (s : State) (k : Byte → State → State) (r : Refusal) :
    (memRead p a s fun b s' => .next (k b s')) ≠ .refused r := by
  cases hread : s.readByte p a with
  | none => rw [memRead_none hread]; nofun
  | some b => rw [memRead_some hread]; nofun

theorem vblank_step_ne_refused (sl d : Nat) (s : State) (r : Refusal) : stepOf .vblankCheck sl d s ≠ .refused r := by
  rw [vblank_step]
  split
  case isTrue => nofun
  split
  case isFalse => nofun
  case isTrue =>
    obtain ⟨-, hwrite⟩ | ⟨-, hfault⟩ := statusWrite_cases clearedFlagsByte s.clearFlags
    · rw [execStatusWrite, hwrite]; nofun
    · rw [execStatusWrite, hfault]; nofun

theorem fetch_step_ne_refused (sl d : Nat) (s : State) (r : Refusal) : stepOf .fetch sl d s ≠ .refused r := by
  rw [fetch_step]
  split
  case isTrue => nofun
  split
  case isTrue => nofun
  split
  case isTrue => nofun
  split
  case isTrue => exact memRead_ne_refused _ _ _ _ r
  split
  case h_4 => split <;> exact memRead_ne_refused _ _ _ _ r
  all_goals exact memRead_ne_refused _ _ _ _ r

theorem emitColor_ne_refused (a : Addr) (b : Byte) (s : State) (r : Refusal) : emitColor a b s ≠ .refused r := by
  unfold emitColor
  split <;> nofun

/-- PIXEL_EMIT has its cell inside the write window (log 12). -/
theorem execPixelEmit_ne_refused (hw : writeWindow s.scanline s.dot = true) (r : Refusal) :
    execPixelEmit s ≠ .refused r := by
  rw [execPixelEmit, if_pos hw, ne_eq, keepPre_eq_refused]
  cases hread : s.readByte .generic s.pa with
  | none => rw [memRead_none hread]; nofun
  | some b => rw [memRead_some hread]; exact emitColor_ne_refused _ _ _ r

/-- The pixel gate asks for the write window at the tick's start, where the counters still stand. -/
theorem pixel_step_ne_refused (s : State) (r : Refusal) : stepOf .pixel s.scanline s.dot s ≠ .refused r := by
  rw [pixel_step]
  split
  case isTrue hgate =>
    have hwindow : writeWindow s.scanline s.dot = true := (Bool.and_eq_true_iff.1 hgate).2
    exact execPixelEmit_ne_refused (s := { s with pa := pixelAddr s }) hwindow r
  case isFalse => nofun

theorem next_ne_refused {o : Out} (h : ∃ t, o = .next t) (r : Refusal) : o ≠ .refused r := by
  obtain ⟨t, rfl⟩ := h
  nofun

theorem step_ne_refused (st : TickStep) (s : State) (r : Refusal) : stepOf st s.scanline s.dot s ≠ .refused r := by
  cases st
  case mask => exact next_ne_refused ⟨_, mask_step ..⟩ r
  case sample => exact next_ne_refused ⟨_, sample_step ..⟩ r
  case vblankCheck => exact vblank_step_ne_refused _ _ s r
  case reload => exact next_ne_refused (reload_step_completes ..) r
  case fetch => exact fetch_step_ne_refused _ _ s r
  case address => exact next_ne_refused (address_step_completes ..) r
  case shift => exact next_ne_refused (shift_step_completes ..) r
  case pixel => exact pixel_step_ne_refused s r
  case counter => exact next_ne_refused ⟨_, counter_step ..⟩ r

/-- Where only the last step may count, every step meets the coordinates the tick started at. -/
theorem runSteps_ne_refused {steps : List TickStep} (hlast : TickStep.counter ∉ steps.dropLast) (hs : s.standsLike u)
    (r : Refusal) : runSteps u.scanline u.dot steps s ≠ .refused r := by
  induction steps generalizing s with
  | nil => nofun
  | cons st rest ih =>
    intro hrefused
    rw [runSteps_cons] at hrefused
    have ⟨_, _, hsl, hdot⟩ := hs
    obtain hfirst | ⟨t, ht, hrest⟩ := andThen_eq_refused.1 hrefused
    · rw [← hsl, ← hdot] at hfirst
      exact step_ne_refused st s r hfirst
    · cases rest with
      | nil => cases hrest
      | cons st' rest' =>
        rw [List.dropLast_cons_cons, List.mem_cons, not_or] at hlast
        obtain ⟨hst, hlast⟩ := hlast
        exact ih hlast ((step_standsLike ht (Ne.symm hst)).trans hs) hrest

theorem tick_ne_refused (s : State) (r : Refusal) : execAdvance s ≠ .refused r := by
  rw [execAdvance, ne_eq, keepPre_eq_refused]
  exact runSteps_ne_refused (by decide) (show s.beginTick.standsLike s from ⟨rfl, rfl, rfl, rfl⟩) r

/-! ## The faults of a tick (R230, R231) -/

/-- Settles O47: the three steps that touch the memory fault for the listed causes alone, and each meets the memories and the
place of the tick's start. -/
theorem tickFaultsOnlyForTheListedCauses : Obligations.TickFaultsOnlyForTheListedCauses := by
  intro s
  refine ⟨tick_ne_refused s, fun f hfault => ?_⟩
  obtain ⟨g, rfl, hcheck | ⟨s3, s5a, h3, ha, hrest⟩⟩ := tick_eq_fault hfault
  · obtain ⟨hsl, hdot, hrejects, rfl⟩ := vblank_fault hcheck
    exact ⟨rfl, .inr (.inl ⟨_, rfl, hsl, hdot, hrejects⟩)⟩
  refine ⟨withPre_pre s g, ?_⟩
  have hs5a : s5a.standsLike s :=
    ((step_standsLike ha nofun).trans (step_standsLike h3 nofun)).trans (sampled_standsLike s)
  obtain hfetch | ⟨s5b, s5c, s5d, hb, hc, hd, hpixel⟩ := hrest
  · obtain ⟨p, a, hnone, rfl⟩ := fetch_fault hfetch
    have ⟨_, _, hsl, hdot⟩ := hs5a
    rw [hs5a.readByte] at hnone
    rw [hsl, hdot]
    exact .inl ⟨p, a, _, rfl, hnone⟩
  have hs5d : s5d.standsLike s :=
    (((step_standsLike hd nofun).trans (step_standsLike hc nofun)).trans (step_standsLike hb nofun)).trans hs5a
  have ⟨_, _, hsl, hdot⟩ := hs5d
  obtain ⟨hnone, rfl⟩ | ⟨b, hread, hbyte, rfl⟩ := pixel_fault hpixel
  · rw [hs5d.readByte] at hnone
    rw [hsl, hdot]
    exact .inl ⟨.generic, _, _, rfl, hnone⟩
  · rw [hs5d.readByte] at hread
    rw [hsl, hdot]
    exact .inr (.inr ⟨_, b, _, rfl, pixelAddr_range s5d, hread, hbyte⟩)

/-! ## The host's moves by themselves (R240-R248) -/

theorem exec_hostSetCtrl (a b : Option Bool) (s : State) : exec (.hostSetCtrl a b) s = execHostSetCtrl a b s := rfl
theorem exec_hostSetMask (a b : Option Bool) (s : State) : exec (.hostSetMask a b) s = execHostSetMask a b s := rfl
theorem exec_hostSetT (x : Nat) (s : State) : exec (.hostSetT x) s = execHostSetT x s := rfl
theorem exec_hostSetFinex (x : Nat) (s : State) : exec (.hostSetFinex x) s = execHostSetFinex x s := rfl
theorem exec_hostSetIdle (n : Nat) (s : State) : exec (.hostSetIdle n) s = execHostSetIdle n s := rfl
theorem exec_hostClrIrq (s : State) : exec .hostClrIrq s = execHostClrIrq s := rfl
theorem exec_hostSetSprflags (z o : Bool) (s : State) : exec (.hostSetSprflags z o) s = execHostSetSprflags z o s := rfl
theorem exec_hostPoke (p : Port) (a : Addr) (b : Byte) (s : State) : exec (.hostPoke p a b) s = execHostPoke p a b s := rfl
theorem exec_hostObserve (s : State) : exec .hostObserve s = execHostObserve s := rfl

/-- Settles O53: each setter replaces its fields by definition, the two numbers taken modulo their field's width. -/
theorem hostSetterResults : Obligations.HostSetterResults :=
  fun s _ _ x => ⟨exec_hostSetCtrl .., exec_hostSetMask .., ⟨_, BitVec.toNat_ofNat x 15, exec_hostSetT x s⟩,
    ⟨_, BitVec.toNat_ofNat x 3, exec_hostSetFinex x s⟩, exec_hostClrIrq s⟩

/-- Settles O54: a field that the move does not name is replaced by itself. -/
theorem otherSetterResults : Obligations.OtherSetterResults :=
  fun s _ _ n => ⟨exec_hostSetIdle n s, exec_hostSetSprflags .., exec_hostSetCtrl .., exec_hostSetCtrl ..,
    exec_hostSetMask .., exec_hostSetMask .., exec_hostSetCtrl .., exec_hostSetMask ..⟩

/-- A poke writes the two memories and nothing else. -/
theorem pokeByte_frame (s : State) (p : Port) (a : Addr) (b : Byte) :
    { s.pokeByte p a b with gen := s.gen, raw := s.raw } = s := by
  cases p <;> rfl

/-- Settles O55: the poked byte reads back, and every other read passes the poke by. -/
theorem pokeChangesOneByteOfOneView : Obligations.PokeChangesOneByteOfOneView := by
  intro s p a b
  refine ⟨s.pokeByte p a b, exec_hostPoke p a b s, ?same, fun q c hother => ?other, pokeByte_frame s p a b,
    pokeByte_wf s p a b⟩
  case same => rw [readByte_pokeByte, if_pos ⟨rfl, rfl⟩]
  case other => rw [readByte_pokeByte, if_neg hother]

theorem isMemory_iff (e : Event) :
    e.isMemory = true ↔ (∃ p a b, e = .read p a b) ∨ ∃ a b k, e = .write a b k := by
  cases e <;> simp [Event.isMemory]

/-- Settles O56: the memory events are the tick's events filtered by their kind. -/
theorem observeChangesNothing : Obligations.ObserveChangesNothing := by
  intro s
  refine ⟨exec_hostObserve s, rfl, rfl, rfl, List.contains_iff_mem, fun e => ?_⟩
  rw [State.observe, List.mem_filter, isMemory_iff]

/-! ## What the host's moves leave alone (R249) -/

/-- A host move that is neither a tick nor a reinitialisation writes the inputs, the idle counter, the sprite flags and the
memories, and may clear the request. -/
theorem hostMove_frame {i : Instr} (hmove : i.isHostMove = true) (htick : i ≠ .advance)
    (hreinit : ∀ S0, i ≠ .hostReinit S0) (h : exec i s = .next t) :
    t = { s with
      ext := t.ext, idle := t.idle, irq := t.irq, spriteZeroHit := t.spriteZeroHit
      spriteOverflow := t.spriteOverflow, gen := t.gen, raw := t.raw } ∧
    (t.irq = true → s.irq = true) := by
  cases i
  case advance => exact absurd rfl htick
  case hostReinit S0 => exact absurd rfl (hreinit S0)
  case hostSetCtrl | hostSetMask | hostSetT | hostSetFinex | hostSetIdle | hostSetSprflags | hostObserve =>
    cases h
    exact ⟨rfl, id⟩
  case hostClrIrq =>
    cases h
    exact ⟨rfl, nofun⟩
  case hostPoke p a b =>
    cases h
    cases p <;> exact ⟨rfl, id⟩
  all_goals cases hmove

/-- Settles O60: none of the fields named is among those that the frame of a host move leaves open, save `irq`, which it may
only clear. -/
theorem hostMovesNeverTouchTheDatapath : Obligations.HostMovesNeverTouchTheDatapath := by
  intro i s t hmove htick hreinit h
  obtain ⟨hframe, hirq⟩ := hostMove_frame hmove htick hreinit h
  rw [hframe]
  exact ⟨rfl, rfl, rfl, rfl, rfl, rfl, rfl, rfl, rfl, rfl, rfl, rfl, rfl, rfl, rfl, rfl, rfl, rfl, hirq⟩

/-! ## The next move (R239) -/

theorem fetchMove_of_none_pending (h : s.pending = []) : s.fetchMove = (.advance, s) := by
  rw [State.fetchMove, h]

theorem fetchMove_of_pending {i : Instr} {rest : List Instr} (h : s.pending = i :: rest) :
    s.fetchMove = (i, { s with pending := rest }) := by
  rw [State.fetchMove, h]

/-- Settles O8: the move that waits decides, or ADVANCE where none does, and the step asks whether it is the host's. -/
theorem stepRunsNextMove : Obligations.StepRunsNextMove := by
  refine ⟨fun s hnone => ?tick, fun s i rest hpending hmove => ?move, fun s i rest hpending hmicro => ?micro⟩
  case tick =>
    rw [step, fetchMove_of_none_pending hnone]
    rfl
  case move => rw [step, fetchMove_of_pending hpending, if_pos hmove]
  case micro =>
    rw [step, fetchMove_of_pending hpending]
    exact if_neg (Bool.eq_false_iff.1 hmicro)

end Sys2Proof.Machine
end

section
/-! SUPPORT. The reset and hazard statements (70_reset_and_hazards.md): the boot requirements over a tick, the tick at dot 256
with the mask on, the interrupt request over a tick, and the reinitialisation. -/

namespace Sys2Proof.Machine

variable {s t : State}

/-! ## The boot requirements over a tick (R262) -/

/-- Settles O49: a booted machine completes its tick, whose frame keeps the memories and the acceptance of the status write. -/
theorem bootedTickCompletes : Obligations.BootedTickCompletes := by
  intro s hb
  obtain ⟨t, ht⟩ := tick_completes hb
  obtain ⟨-, -, -, -, -, -, hdot, hscanline⟩ := tick_frame ht
  exact ⟨t, ht, tick_booted hb ht, hdot, hscanline⟩

/-! ## The mask and dot 256 (R277) -/

/-- TICK_MASK clears the top bit of fine Y (R101), so that INC_FINE_Y meets no fine Y of 7. -/
theorem fineY_masked_ne_seven (v : VReg) : fineY (v &&& 0x3FFF#15) ≠ 7#3 := by
  intro h
  have htop := congrArg (BitVec.getLsbD · 2) h
  simp [fineY] at htop

/-- The mask touches neither coarse Y nor `v[11]`. -/
theorem vertical_masked (v : VReg) : coarseY (v &&& 0x3FFF#15) = coarseY v ∧ ntV (v &&& 0x3FFF#15) = ntV v := by
  have hfull (x : BitVec 5) : x &&& 31#5 = x := BitVec.and_allOnes
  simp [coarseY, ntV, BitVec.extractLsb'_and, hfull]

/-- At dot 256 the address step increments fine Y or does nothing (41_address_pathway.md R120, R127). -/
theorem address_step_at_256 {sl : Nat} (h : stepOf .address sl 256 s = .next t) : t.v = s.v ∨ t.v = incY s.v := by
  rw [address_step] at h
  split at h
  case isTrue => cases h; exact .inl rfl
  case isFalse => cases h; exact .inr rfl

/-- Between the mask and the end of the tick, only the address step writes `v`. -/
theorem tick_v_of_address_step (h : execAdvance s = .next t) :
    ∃ u w, stepOf .address s.scanline s.dot u = .next w ∧ u.v = s.sampled.v ∧ t.v = w.v := by
  obtain ⟨s3, s5a, s5b, s5c, s5d, s6, h3, ha, hb, hc, hd, h6, h7⟩ := tick_eq_next.1 h
  refine ⟨s5b, s5c, hc, ?before, ?after⟩
  case before => rw [(fetch_frame hb).1, reload_frame ha, vblank_frame h3]
  case after => rw [counter_frame h7, pixel_frame h6, shift_frame hd]

/-- Settles O20: the masked fine Y counts up below 7, which leaves the other vertical fields alone. -/
theorem liveMaskStopsCoarseY : Obligations.LiveMaskStopsCoarseY := by
  intro s t hmask hdot h
  obtain ⟨u, w, hstep, hu, ht⟩ := tick_v_of_address_step h
  have hmasked : u.v = s.v &&& 0x3FFF#15 := hu.trans (if_pos hmask)
  obtain ⟨hcoarse, hnt⟩ := vertical_masked s.v
  rw [hdot] at hstep
  obtain hkept | hcounted := address_step_at_256 hstep
  · rw [ht, hkept, hmasked]
    exact ⟨hcoarse, hnt⟩
  · obtain ⟨-, -, hcoarse', -, hnt'⟩ := incY_fields_of_fineY_ne (fineY_masked_ne_seven s.v)
    rw [ht, hcounted, hmasked]
    exact ⟨hcoarse'.trans hcoarse, hnt'.trans hnt⟩

/-! ## The interrupt request over a tick (R270) -/

/-- The request is decided by the check of the tick alone, on the inputs sampled in it (45_vblank.md R211). -/
theorem tick_irq (h : execAdvance s = .next t) :
    t.irq = (s.irq || (s.scanline == 241 && s.dot == 1 && s.ext.irqEnable)) := by
  obtain ⟨s3, s5a, s5b, s5c, s5d, s6, h3, ha, hb, hc, hd, h6, h7⟩ := tick_eq_next.1 h
  obtain ⟨-, hirq, -⟩ := check_cases h3
  have hkept : t.irq = s3.irq := by
    rw [counter_frame h7, pixel_frame h6, shift_frame hd, address_frame hc, (fetch_frame hb).1, reload_frame ha]
  exact hkept.trans hirq

theorem irqEdge_eq_true_iff : irqEdge s t = true ↔ s.irq = false ∧ t.irq = true := by simp [irqEdge]

/-- Settles O24: the request after the tick is the request before or the enable bit at (241, 1); an edge is the second without
the first. -/
theorem interruptRaisedIffEnabledAtThatTick : Obligations.InterruptRaisedIffEnabledAtThatTick := by
  intro s t h
  have hraised : t.irq = true ↔ s.irq = true ∨ (s.scanline = 241 ∧ s.dot = 1 ∧ s.ext.irqEnable = true) := by
    simp [tick_irq h, and_assoc]
  refine ⟨hraised, ?edge⟩
  rw [irqEdge_eq_true_iff, hraised]
  exact and_congr_right fun hbefore => by simp [hbefore]

/-! ## The admitted initial states (R261) -/

theorem cellAdmitted_iff (c : RawCell) :
    cellAdmitted c = true ↔ c.row < 224 ∧ c.col < 256 ∧ c.r < 2 ^ 8 ∧ c.g < 2 ^ 8 ∧ c.b < 2 ^ 8 := by
  simp [cellAdmitted, and_assoc]

theorem admitted_iff (S0 : InitImage) :
    admitted S0 = true ↔
      S0.dot ≤ 340 ∧ S0.scanline ≤ 261 ∧ S0.v < 2 ^ 15 ∧ S0.slo < 2 ^ 16 ∧ S0.shi < 2 ^ 16 ∧
      S0.alo < 2 ^ 8 ∧ S0.ahi < 2 ^ 8 ∧ S0.ntLatch < 2 ^ 8 ∧ S0.atLatch < 2 ^ 8 ∧ S0.ptLoLatch < 2 ^ 8 ∧
      S0.ptHiLatch < 2 ^ 8 ∧ S0.ptBase < 2 ^ 14 ∧ (S0.frameParity = 0 ∨ S0.frameParity = 1) ∧
      ∀ c ∈ S0.fb, c.row < 224 ∧ c.col < 256 ∧ c.r < 2 ^ 8 ∧ c.g < 2 ^ 8 ∧ c.b < 2 ^ 8 := by
  simp only [admitted, Bool.and_eq_true, decide_eq_true_eq, and_assoc, List.all_eq_true, cellAdmitted_iff,
    Nat.le_one_iff_eq_zero_or_eq_one]

theorem exec_hostReinit (S0 : InitImage) (s : State) : exec (.hostReinit S0) s = execHostReinit S0 s := rfl

theorem execHostReinit_of_admitted {S0 : InitImage} (h : admitted S0 = true) (s : State) :
    execHostReinit S0 s = .next (s.load S0) := if_pos h

theorem execHostReinit_of_not_admitted {S0 : InitImage} (h : admitted S0 = false) (s : State) :
    execHostReinit S0 s = .refused .initOutOfRange := if_neg (Bool.eq_false_iff.1 h)

/-- Settles O58: `admitted` is the conjunction of R261's ranges, and HOST_REINIT asks for it. -/
theorem otherInitialStatesAreRefused : Obligations.OtherInitialStatesAreRefused :=
  fun s S0 => ⟨admitted_iff S0, fun h => (exec_hostReinit S0 s).trans (execHostReinit_of_not_admitted h s)⟩

/-! ## The frame buffer of an initial state (R260; D23) -/

/-- The colour a listed cell holds. -/
def cellColor (c : RawCell) : RGB := ⟨BitVec.ofNat 8 c.r, BitVec.ofNat 8 c.g, BitVec.ofNat 8 c.b⟩

theorem loadCells_cons (c : RawCell) (rest : List RawCell) :
    loadCells (c :: rest) = putCell (fbPos c.row c.col) (cellColor c) (loadCells rest) := rfl

/-- The loaded frame buffer shows at each cell the first colour listed for it. -/
theorem cellAt_loadCells {cells : List RawCell} (hcells : ∀ c ∈ cells, c.col < 256) (row : Nat) {col : Nat} (hcol : col < 256) :
    cellAt (fbPos row col) (loadCells cells) = (cells.find? fun c => c.row == row && c.col == col).map cellColor := by
  induction cells with
  | nil => rfl
  | cons c rest ih =>
    obtain ⟨hc, hrest⟩ := List.forall_mem_cons.1 hcells
    rw [loadCells_cons, cellAt_putCell, List.find?_cons, ih hrest]
    have hplace : fbPos row col = fbPos c.row c.col ↔ (c.row == row && c.col == col) = true := by
      rw [fbPos_inj hcol hc, Bool.and_eq_true, beq_iff_eq, beq_iff_eq, eq_comm (a := row), eq_comm (a := col)]
    split
    case isTrue hsame => rw [hplace.1 hsame]; rfl
    case isFalse hother => rw [Bool.eq_false_iff.2 (mt hplace.2 hother)]

theorem loadCells_wf {cells : List RawCell} (hcells : ∀ c ∈ cells, c.row < 224 ∧ c.col < 256) :
    FrameBuffer.wf (loadCells cells) = true := by
  induction cells with
  | nil => rfl
  | cons c rest ih =>
    obtain ⟨⟨hrow, hcol⟩, hrest⟩ := List.forall_mem_cons.1 hcells
    exact cellsFrom_putCell (cellColor c) (Nat.zero_le _) (fbPos_lt hrow hcol) (ih hrest)

/-! ## HOST_REINIT with an admitted state (R260) -/

/-- A number that fits its register is the register's value. -/
theorem toNat_ofNat_of_fits {w n : Nat} (h : n < 2 ^ w) : (BitVec.ofNat w n).toNat = n :=
  (BitVec.toNat_ofNat n w).trans (Nat.mod_eq_of_lt h)

/-- Settles O57: what is admitted fits the registers it is loaded into, and the listed cells are loaded one by one. -/
theorem reinitReplacesTheTuple : Obligations.ReinitReplacesTheTuple := by
  intro s S0 hadmitted _
  obtain ⟨-, -, hv, hslo, hshi, halo, hahi, hnt, hat, hptLo, hptHi, hptBase, hparity, hcells⟩ := (admitted_iff S0).1 hadmitted
  refine ⟨s.load S0, (exec_hostReinit S0 s).trans (execHostReinit_of_admitted hadmitted s), rfl, rfl,
    toNat_ofNat_of_fits hv, toNat_ofNat_of_fits hslo, toNat_ofNat_of_fits hshi, toNat_ofNat_of_fits halo,
    toNat_ofNat_of_fits hahi, toNat_ofNat_of_fits hnt, toNat_ofNat_of_fits hat, toNat_ofNat_of_fits hptLo,
    toNat_ofNat_of_fits hptHi, toNat_ofNat_of_fits hptBase, rfl, rfl, rfl, rfl, rfl, rfl, rfl, rfl,
    toNat_ofNat_of_fits (by omega), fun row col hcol => ?cells, ?wf, rfl, rfl, rfl, rfl, rfl, rfl, rfl, rfl, rfl, rfl⟩
  case cells =>
    refine cellAt_loadCells (fun c hc => ?_) row hcol
    obtain ⟨-, hlt, -⟩ := hcells c hc
    exact hlt
  case wf =>
    refine loadCells_wf fun c hc => ?_
    obtain ⟨hrow, hlt, -⟩ := hcells c hc
    exact ⟨hrow, hlt⟩

end Sys2Proof.Machine
end

section
/-! SUPPORT. The statements over all instructions and all steps: the encoder and the decoder, what each step of a tick issues,
the tick over `exec`, the invariants, and what a tick does not depend on. -/

namespace Sys2Proof

/-! ## The encoded line decodes back (R91) -/

theorem decodeLine_encode {i : Instr} (h : i.scriptable = true) : decodeLine (encode i) = .ok i.scriptLine := by
  rw [decodeLine, encode, lex_render _ i.lexemes_written]
  exact parseLine_lexemes h

/-- Settles O2: the written line lexes to the instruction's lexemes, which parse back to it; `TICK 1` is ADVANCE. -/
theorem encodedLineDecodesBack : Obligations.EncodedLineDecodesBack := by
  intro i h
  rw [decode, decodeLine_encode h, Instr.scriptLine]
  by_cases hadvance : i = .advance
  · rw [if_pos hadvance, hadvance]
    rfl
  · rw [if_neg hadvance]

/-! ## The pair of an issued row holds (R72, R88) -/

/-- The dot's mask leaves of a selector word the word of the same dot on line 0. -/
theorem pack_and_dotMask (sl d : Nat) : Sel.pack sl d &&& 0x1ff#18 = Sel.pack 0 d := by
  have hmask : 0x1ff#18 = 0#9 ++ BitVec.allOnes 9 := rfl
  rw [hmask, Sel.pack, BitVec.and_append, BitVec.and_zero, BitVec.and_allOnes, Sel.pack]

/-- The line's mask leaves the word of the line's dot 0. -/
theorem pack_and_lineMask (sl d : Nat) : Sel.pack sl d &&& 0x3fe00#18 = Sel.pack sl 0 := by
  have hmask : 0x3fe00#18 = BitVec.allOnes 9 ++ 0#9 := rfl
  rw [hmask, Sel.pack, BitVec.and_append, BitVec.and_zero, BitVec.and_allOnes, Sel.pack]

/-- A row that fixes no bit has its pair hold at every word. -/
theorem pairHolds_of_noMask {i : Instr} (h : i.pair = (0#18, 0#18)) (sel : Sel) : i.pairHolds sel = true := by
  simp [Instr.pairHolds, h]

theorem isHostMove_of_selected {i : Instr} {c : TickCtx} (h : i.selected c = true) : i.isHostMove = false := by
  cases i
  case advance | hostSetCtrl | hostSetMask | hostSetT | hostSetFinex | hostSetIdle | hostClrIrq | hostSetSprflags |
    hostPoke | hostObserve | hostReinit => cases h
  all_goals rfl

/-- A row's condition asks for every coordinate that its pair fixes. -/
theorem pairHolds_of_selected {i : Instr} {c : TickCtx} (h : i.selected c = true) :
    i.pairHolds (Sel.pack c.scanline c.dot) = true := by
  cases i
  case vblSet | irqRaise =>
    obtain ⟨hsl, hd⟩ : c.scanline = 241 ∧ c.dot = 1 := by simp_all
    rw [hsl, hd]
    decide
  case vblClear | statusWrite =>
    obtain ⟨hsl, hd⟩ : c.scanline = 261 ∧ c.dot = 1 := by simpa using h
    rw [hsl, hd]
    decide
  case parityToggle =>
    obtain ⟨hsl, hd⟩ : c.scanline = 261 ∧ c.dot = 340 := by simpa using h
    rw [hsl, hd]
    decide
  case incFineY =>
    obtain ⟨-, hd⟩ : c.gate = true ∧ c.dot = 256 := by simpa using h
    rw [Instr.pairHolds, hd, Instr.pair, pack_and_dotMask]
    decide
  case fetchStall257 | copyH | cpReset =>
    obtain ⟨-, hd⟩ : c.gate = true ∧ c.dot = 257 := by simpa using h
    rw [Instr.pairHolds, hd, Instr.pair, pack_and_dotMask]
    decide
  case fetchPthiPre | copyV =>
    have hsl : c.scanline = 261 := by simp_all [verticalCopy]
    rw [Instr.pairHolds, hsl, Instr.pair, pack_and_lineMask]
    decide
  all_goals exact pairHolds_of_noMask rfl _

/-- Settles O3: an issued row's condition holds, and that condition asks for the pair and is false of a host action. -/
theorem issuedRowsHoldPairAndSelect : Obligations.IssuedRowsHoldPairAndSelect := by
  intro st c i _ _ hissued
  obtain ⟨-, hselected⟩ := Machine.issued_mem hissued
  exact ⟨pairHolds_of_selected hselected, hselected, isHostMove_of_selected hselected⟩

/-! ## What a step issues (R88) -/

theorem firstSelected_cons (c : TickCtx) (i : Instr) (ls : List Instr) :
    firstSelected c (i :: ls) = if i.selected c = true then some i else firstSelected c ls := by
  rw [firstSelected, List.find?_cons]
  cases i.selected c <;> rfl

@[simp] theorem firstSelected_nil (c : TickCtx) : firstSelected c [] = none := rfl

theorem verticalCopy_iff (sl d : Nat) : verticalCopy sl d = true ↔ sl = 261 ∧ 280 ≤ d ∧ d ≤ 304 := by
  simp [verticalCopy, and_assoc]

theorem fetchWindow_iff (d : Nat) : fetchWindow d = true ↔ (1 ≤ d ∧ d ≤ 256) ∨ (321 ≤ d ∧ d ≤ 336) := by
  simp [fetchWindow]

/-- The chain of R127 under the gate. -/
theorem firstSelected_address {c : TickCtx} (h : c.gate = true) :
    firstSelected c TickStep.address.lines =
      if c.dot = 256 then some .incFineY
      else if c.dot = 257 then some .copyH
      else if c.scanline = 261 ∧ 280 ≤ c.dot ∧ c.dot ≤ 304 then some .copyV
      else if c.dot = c.cpVis then some .incCoarseXVis
      else if c.dot = c.cpPre then some .incCoarseXPre
      else none := by
  simp only [TickStep.lines, firstSelected_cons, firstSelected_nil, Machine.selected_incFineY, Machine.selected_copyH,
    Machine.selected_copyV, Machine.selected_incCoarseXVis, Machine.selected_incCoarseXPre, h, Bool.true_and, beq_iff_eq,
    verticalCopy_iff]

/-- Settles O4: the first line of the chain whose condition holds, and CP_RESET with COPY_H. -/
theorem addressStepIssuesFirstOfChain : Obligations.AddressStepIssuesFirstOfChain := by
  intro c
  refine ⟨fun hclosed => ?closed, fun hopen => ?opened⟩
  case closed => simp [issued, TickStep.lines, firstSelected, hclosed]
  case opened =>
    rw [issued, firstSelected_address hopen]
    split_ifs <;> rfl

/-- The chain of R140-R149 under the gate. -/
theorem firstSelected_fetch {c : TickCtx} (h : c.gate = true) :
    firstSelected c TickStep.fetch.lines =
      if c.dot = 257 then some .fetchStall257
      else if 0 < c.idle then some .fetchIdle
      else if (1 ≤ c.dot ∧ c.dot ≤ 256) ∨ (321 ≤ c.dot ∧ c.dot ≤ 336) then
        match c.stage with
        | .NT => some .fetchNt
        | .AT => some .fetchAt
        | .PTLO => some .fetchPtlo
        | .PTHI => if c.scanline = 261 then some .fetchPthiPre else some .fetchPthiVis
      else some .fetchNtDummy := by
  simp only [TickStep.lines, firstSelected_cons, firstSelected_nil, ← fetchWindow_iff]
  by_cases hstall : c.dot = 257
  · simp [h, hstall]
  by_cases hidle : 0 < c.idle
  · simp [h, hstall, hidle]
  have hzero : c.idle = 0 := Nat.eq_zero_of_not_pos hidle
  cases hin : fetchWindow c.dot
  case false => simp [h, hstall, hzero, hin]
  case true =>
    cases hstage : c.stage
    case PTHI => by_cases hpre : c.scanline = 261 <;> simp [h, hstall, hzero, hin, hstage, hpre]
    all_goals simp [h, hstall, hzero, hin, hstage]

/-- Settles O5: the first line of the chain whose condition holds, and one always does. -/
theorem fetchStepIssuesOneUnderGate : Obligations.FetchStepIssuesOneUnderGate := by
  intro c
  refine ⟨fun hclosed => ?closed, fun hopen => ?opened⟩
  case closed => simp [issued, TickStep.lines, firstSelected, hclosed]
  case opened =>
    rw [issued, firstSelected_fetch hopen]
    cases c.stage <;> split_ifs <;> rfl

/-- Settles O6: the four conditions of the step ask for one of two ticks, and IRQ_RAISE for the enable bit besides. -/
theorem vblankCheckIssuesAtTwoTicks : Obligations.VblankCheckIssuesAtTwoTicks := by
  intro c
  by_cases hset : c.scanline = 241 ∧ c.dot = 1
  · obtain ⟨hsl, hd⟩ := hset
    cases hirq : c.e.irqEnable <;> simp [issued, TickStep.lines, hsl, hd, hirq]
  have hset' : (c.scanline == 241 && c.dot == 1) = false := by simpa using hset
  by_cases hclear : c.scanline = 261 ∧ c.dot = 1
  · obtain ⟨hsl, hd⟩ := hclear
    simp [issued, TickStep.lines, hsl, hd]
  have hclear' : (c.scanline == 261 && c.dot == 1) = false := by simpa using hclear
  simp [issued, TickStep.lines, hset, hset', hclear, hclear']

theorem pixelGate_iff (c : TickCtx) :
    c.pixelGate = true ↔ c.vblank = false ∧ 8 ≤ c.scanline ∧ c.scanline ≤ 231 ∧ 1 ≤ c.dot ∧ c.dot ≤ 256 := by
  simp [TickCtx.pixelGate, Machine.writeWindow_iff, and_assoc]

theorem palettePointed_iff (v : VReg) : palettePointed v = true ↔ 0x3F00 ≤ (v &&& 0x3FFF#15).toNat := by
  simp [palettePointed]

/-- Settles O7: under the pixel gate the three address rows split on the background bit and on the address in `v`. -/
theorem pixelStepIssuesOneRowThenEmit : Obligations.PixelStepIssuesOneRowThenEmit := by
  intro c
  simp only [← pixelGate_iff, ← palettePointed_iff]
  cases hgate : c.pixelGate
  case false => simp [issued, TickStep.lines, hgate]
  case true =>
    cases hbg : c.e.showBg
    case true => simp [issued, TickStep.lines, hgate, hbg, Snapshot.backgroundEnabled]
    case false => cases hv : palettePointed c.v <;> simp [issued, TickStep.lines, hgate, hbg, hv, Snapshot.backgroundEnabled]

end Sys2Proof

namespace Sys2Proof.Machine

variable {s t : State}

/-! ## The tick over `exec` (R100) -/

theorem runOps_eq_execOps {is : List Instr} (h : ∀ i ∈ is, i.isHostMove = false) (s : State) : runOps is s = execOps is s := by
  induction is generalizing s with
  | nil => rfl
  | cons i rest ih =>
    obtain ⟨hi, hrest⟩ := List.forall_mem_cons.1 h
    rw [runOps_cons, microExec_eq_exec hi, funext (ih hrest), execOps]

/-- No step issues a host move, so that every issued row has its meaning by `exec`. -/
theorem runSteps_eq_execSteps (sl d : Nat) (steps : List TickStep) (s : State) :
    runSteps sl d steps s = execSteps sl d steps s := by
  induction steps generalizing s with
  | nil => rfl
  | cons st rest ih =>
    have hmicro : ∀ i ∈ issued st (s.tickCtx sl d), i.isHostMove = false := fun i hi => by
      obtain ⟨-, hselected⟩ := issued_mem hi
      exact isHostMove_of_selected hselected
    rw [runSteps, execSteps, runOps_eq_execOps hmicro, funext ih]

/-- Settles O9: ADVANCE runs the nine steps in their order, and a step's rows mean in it what they mean by `exec`. -/
theorem tickRunsExecOfIssuedMicroOps : Obligations.TickRunsExecOfIssuedMicroOps := by
  intro s
  rw [exec_advance, execAdvance, runSteps_eq_execSteps]
  rfl

/-! ## Counters and canonical cells (R38, R111) -/

/-- A pixel that is written has a place in the frame buffer (30_encoding.md R86). -/
theorem fbPos_pixel_lt (h : writeWindow s.scanline s.dot = true) : fbPos s.pixelRow s.pixelCol < 57344 := by
  obtain ⟨⟨hfirst, hlast⟩, hleft, hright⟩ := (writeWindow_iff ..).1 h
  exact fbPos_lt (by rw [State.pixelRow]; omega) (by rw [State.pixelCol]; omega)

theorem tick_fb_wf (hfb : FrameBuffer.wf s.fb = true) (h : execAdvance s = .next t) : FrameBuffer.wf t.fb = true := by
  obtain ⟨u, w, hstep, -, hbefore, -, -, hafter⟩ := tick_pixel_step h
  rw [hafter]
  rw [← hbefore] at hfb
  obtain ⟨-, rfl⟩ | ⟨-, hwindow, b, color, -, -, rfl⟩ := pixel_cases hstep
  · exact hfb
  · exact cellsFrom_putCell color (Nat.zero_le _) (fbPos_pixel_lt hwindow) hfb

theorem tick_inv (hs : s.Inv) (h : execAdvance s = .next t) : t.Inv := by
  obtain ⟨hcounters, hgen, hraw, hfb⟩ := hs
  obtain ⟨-, hgen', hraw', -⟩ := tick_frame h
  exact ⟨tick_countersOk hcounters h, hgen' ▸ hgen, hraw' ▸ hraw, tick_fb_wf hfb h⟩

/-- What R261 admits has counters of a frame and cells of the frame buffer. -/
theorem reinit_inv {S0 : InitImage} (hs : s.Inv) (h : execHostReinit S0 s = .next t) : t.Inv := by
  obtain ⟨-, hgen, hraw, -⟩ := hs
  rw [execHostReinit] at h
  split at h
  case isFalse => cases h
  case isTrue hadmitted =>
    cases h
    obtain ⟨hdot, hsl, -, -, -, -, -, -, -, -, -, -, -, hcells⟩ := (admitted_iff S0).1 hadmitted
    refine ⟨⟨hdot, hsl⟩, hgen, hraw, loadCells_wf fun c hc => ?_⟩
    obtain ⟨hrow, hcol, -⟩ := hcells c hc
    exact ⟨hrow, hcol⟩

theorem hostMove_inv {i : Instr} (hmove : i.isHostMove = true) (hs : s.Inv) (h : exec i s = .next t) : t.Inv := by
  cases i
  case advance => exact tick_inv hs h
  case hostReinit => exact reinit_inv hs h
  case hostPoke p a b =>
    cases h
    obtain ⟨hcounters, hgen, hraw, hfb⟩ := hs
    obtain ⟨hgen', hraw'⟩ := pokeByte_wf s p a b hgen hraw
    cases p <;> exact ⟨hcounters, hgen', hraw', hfb⟩
  case hostSetCtrl | hostSetMask | hostSetT | hostSetFinex | hostSetIdle | hostClrIrq | hostSetSprflags | hostObserve =>
    cases h
    exact hs
  all_goals cases hmove

/-- A step is its move, on the state without that move among the waiting ones. -/
theorem step_eq_next (h : step s = .next t) :
    s.fetchMove.1.isHostMove = true ∧ exec s.fetchMove.1 s.fetchMove.2 = .next t := by
  rw [step] at h
  split at h
  case isTrue hmove => exact ⟨hmove, h⟩
  case isFalse => cases h

theorem fetchMove_inv (hs : s.Inv) : s.fetchMove.2.Inv := by
  rw [State.fetchMove]
  split <;> exact hs

/-- Settles O11: a tick counts within the frame and writes its own cell, a poke and a reinitialisation write canonical cells,
and no other move writes any of these fields. -/
theorem everyStepKeepsCountersAndCells : Obligations.EveryStepKeepsCountersAndCells := by
  intro s t hs h
  obtain ⟨hmove, hexec⟩ := step_eq_next h
  exact hostMove_inv hmove (fetchMove_inv hs) hexec

/-! ## The reset state (R38, R41) -/

/-- Settles O12: the counters are 0, the lists empty, the attribute registers 0x00, and (0, 0) lies outside the span. -/
theorem resetMeetsTheInvariants : Obligations.ResetMeetsTheInvariants := by
  refine ⟨⟨⟨?dot, ?scanline⟩, reset_memory_wf⟩, ⟨.inl rfl, .inl rfl⟩, ?phase⟩
  case dot => decide
  case scanline => decide
  case phase => rw [State.vblankInPhase]; decide

theorem decode_init : decode (ascii "INIT") = .ok (.hostReinit InitImage.refInit) := by decide

/-- Settles O59: `INIT` names no element to replace, and REF_INIT is admitted and holds the values of reset. -/
theorem reinitToReferenceGivesReset : Obligations.ReinitToReferenceGivesReset := by
  have hadmitted : admitted InitImage.refInit = true := by decide
  exact ⟨decode_init, (exec_hostReinit ..).trans (execHostReinit_of_admitted hadmitted _)⟩

/-! ## The attribute registers over a tick (R25) -/

theorem reload_keeps_attrReplicated {sl d : Nat} (hs : s.attrReplicated) (h : stepOf .reload sl d s = .next t) :
    t.attrReplicated := by
  rw [reload_step] at h
  split at h
  case isTrue => cases h; exact ⟨replicateBit_cases _, replicateBit_cases _⟩
  case isFalse => cases h; exact hs

/-- Settles O13: AT_RECOMPUTE alone writes the two registers, and it writes replicates. -/
theorem tickKeepsAttributeReplicas : Obligations.TickKeepsAttributeReplicas := by
  intro s t hs h
  obtain ⟨s3, s5a, s5b, s5c, s5d, s6, h3, ha, hb, hc, hd, h6, h7⟩ := tick_eq_next.1 h
  have hs3 : s3.attrReplicated := by rw [vblank_frame h3]; exact hs
  have hs5a : s5a.attrReplicated := reload_keeps_attrReplicated hs3 ha
  rw [counter_frame h7, pixel_frame h6, shift_frame hd, address_frame hc, (fetch_frame hb).1]
  exact hs5a

/-! ## A tick without `G` (R103; D33) -/

/-- Settles O18: the four steps of the dispatch do nothing, and no other step writes these fields. -/
theorem closedGateFreezesThePipeline : Obligations.ClosedGateFreezesThePipeline := by
  intro s t hgate hmask h
  obtain ⟨s3, s5a, s5b, s5c, s5d, s6, h3, ha, hb, hc, hd, h6, h7⟩ := tick_eq_next.1 h
  obtain ⟨hvblank, -⟩ := check_cases h3
  have e3 := vblank_frame h3
  have hclosed : gateAt s.scanline s.dot s3 = false := by
    have hsnap : s3.snap = s.ext := by rw [e3]; rfl
    rw [gateAt_eq, hsnap, hvblank, ← hgate, State.gateHolds]
  rw [reload_step_of_closed hclosed] at ha
  cases ha
  rw [fetch_step_of_closed hclosed] at hb
  cases hb
  rw [address_step_of_closed hclosed] at hc
  cases hc
  rw [shift_step_of_closed hclosed] at hd
  cases hd
  have hv : s.sampled.v = s.v := by simp [State.sampled, hmask]
  rw [counter_frame h7, pixel_frame h6, e3]
  exact ⟨hv, rfl, rfl, rfl, rfl, rfl, rfl, rfl, rfl, rfl, rfl, rfl, rfl, rfl⟩

/-! ## PIXEL_EMIT by itself (R194, R195) -/

theorem exec_pixelEmit (s : State) : exec .pixelEmit s = execPixelEmit s := rfl

theorem execPixelEmit_of_window (h : writeWindow s.scanline s.dot = true) :
    execPixelEmit s = keepPre s (memRead .generic s.pa s fun b s' => emitColor s.pa b s') := if_pos h

theorem emitColor_of_lt {a : Addr} {b : Byte} (h : b.toNat < 64) :
    emitColor a b s = .next (s.putPixel s.pixelRow s.pixelCol (s.params.rgb[b.toNat]'h)) := by
  rw [emitColor, rgbEntry_eq_some h]

theorem emitColor_of_ge {a : Addr} {b : Byte} (h : 64 ≤ b.toNat) : emitColor a b s = raisePalette s a b := by
  rw [emitColor, rgbEntry_eq_none h]

/-- Settles O43: the palette read is answered or not, and its byte has an entry or not. -/
theorem pixelEmitResults : Obligations.PixelEmitResults := by
  intro s
  simp only [exec_pixelEmit]
  refine ⟨fun hwindow => ?_, fun houtside => if_neg (Bool.eq_false_iff.1 houtside)⟩
  rw [execPixelEmit_of_window hwindow]
  refine ⟨fun b hb hread => ?entry, fun b hb hread => ?noEntry, fun hread => ?unanswered⟩
  case entry =>
    rw [memRead_some hread, emitColor_of_lt hb, keepPre_next]
    simp [State.putPixel, State.emit, fbPos, State.pixelRow, State.pixelCol]
  case noEntry =>
    rw [memRead_some hread, emitColor_of_ge hb]
    rfl
  case unanswered =>
    rw [memRead_none hread]
    rfl

/-! ## The parity bit has no effect (R112) -/

/-- The state with the other parity. -/
def State.flipParity (s : State) : State := { s with frameParity := s.frameParity ^^^ 1#1 }

/-- A read followed by a latch that passes the parity by. -/
theorem memRead_flipParity {p : Port} {a : Addr} {latch : Byte → State → State}
    (h : (memRead p a s fun b s' => .next (latch b s')) = .next t)
    (hlatch : ∀ b u, latch b (State.flipParity u) = (latch b u).flipParity) :
    (memRead p a s.flipParity fun b s' => .next (latch b s')) = .next t.flipParity := by
  obtain ⟨b, hread, hk⟩ := memRead_eq_next.1 h
  cases hk
  exact memRead_eq_next.2 ⟨b, hread, congrArg Host.Outcome.next (hlatch b (s.emit (.read p a b)))⟩

theorem statusWrite_flipParity {b : Byte} (h : statusWrite b s = .next t) :
    statusWrite b s.flipParity = .next t.flipParity := by
  obtain ⟨haccepts, hwrite⟩ | ⟨-, hfault⟩ := statusWrite_cases b s
  · rw [hwrite] at h
    cases h
    exact if_pos haccepts
  · cases hfault.symm.trans h

theorem execPixelEmit_flipParity (h : execPixelEmit s = .next t) : execPixelEmit s.flipParity = .next t.flipParity := by
  obtain ⟨hwindow, b, color, hread, hcolor, rfl⟩ := execPixelEmit_eq_next.1 h
  exact execPixelEmit_eq_next.2 ⟨hwindow, b, color, hread, hcolor, rfl⟩

/-- From the state with the other parity, a micro-operation ends in the same state with the other parity. -/
theorem microExec_flipParity {i : Instr} (h : microExec i s = .next t) : microExec i s.flipParity = .next t.flipParity := by
  cases i
  case fetchNt | fetchAt | fetchPtlo | fetchPthiVis | fetchPthiPre | fetchNtDummy =>
    rw [microExec] at h ⊢
    exact memRead_flipParity h fun _ _ => rfl
  case statusWrite => exact statusWrite_flipParity h
  case pixelEmit => exact execPixelEmit_flipParity h
  case irqRaise =>
    cases h
    rw [microExec, execIrqRaise, raiseIrq_eq, raiseIrq_eq]
    rfl
  case counterAdvance =>
    rw [microExec, execCounterAdvance_eq] at h ⊢
    cases h
    rfl
  case advance | hostSetCtrl | hostSetMask | hostSetT | hostSetFinex | hostSetIdle | hostClrIrq | hostSetSprflags |
    hostPoke | hostObserve | hostReinit => cases h
  all_goals
    cases h
    rfl

theorem runOps_flipParity {is : List Instr} (h : runOps is s = .next t) : runOps is s.flipParity = .next t.flipParity := by
  induction is generalizing s with
  | nil => cases h; rfl
  | cons i rest ih =>
    obtain ⟨u, hi, hrest⟩ := andThen_eq_next.1 h
    exact andThen_eq_next.2 ⟨u.flipParity, microExec_flipParity hi, ih hrest⟩

/-- No condition reads the parity, so that each step issues the same rows. -/
theorem runSteps_flipParity {sl d : Nat} {steps : List TickStep} (h : runSteps sl d steps s = .next t) :
    runSteps sl d steps s.flipParity = .next t.flipParity := by
  induction steps generalizing s with
  | nil => cases h; rfl
  | cons st rest ih =>
    obtain ⟨u, hst, hrest⟩ := andThen_eq_next.1 h
    exact andThen_eq_next.2 ⟨u.flipParity, runOps_flipParity hst, ih hrest⟩

theorem tick_flipParity (h : execAdvance s = .next t) : execAdvance s.flipParity = .next t.flipParity :=
  keepPre_eq_next.2 (runSteps_flipParity (keepPre_eq_next.1 h))

/-- Settles O17: the counter step alone writes the parity bit, and no condition and no other row reads it. -/
theorem parityTogglesAndHasNoEffect : Obligations.ParityTogglesAndHasNoEffect :=
  fun _ _ h => ⟨tick_frameParity h, tick_flipParity h⟩

end Sys2Proof.Machine
end
